-- ==== Sys2Proof/Word.lean ====
section
/-!
DEFINITION. The two word types of the machine: an 8-bit byte, the only unit the bus moves, and a
16-bit word, the width of PC, SP, the register pairs and every address (rules R7, R10).
-/

namespace Sys2Proof

/-- A byte: 8 bits (R10). Arithmetic on it is modulo 2^8. -/
abbrev Byte := BitVec 8

/-- A word: 16 bits (R10). Arithmetic on it is modulo 2^16. -/
abbrev Word := BitVec 16

end Sys2Proof
end

