-- ==== Sys2Proof/Config.lean ====
section
/-!
DEFINITION. What an implementation fixes (the named parameters of rule R8; the spec's defaults stand in
Machine/Defaults.lean) and the free values the spec leaves open (constants with no body: no proof can
see what they are).
-/

namespace Sys2Proof

/-- `STOP_POLICY` (R8, R333, D4): what opcode 0x10 does. -/
inductive StopPolicy where
  /-- The core ends in `stopped(StopInstruction)`, which is not a fault. The default. -/
  | stuck
  /-- Two bytes, the cycles of its row, execution goes on. -/
  | nop
  /-- The opcode counts as unknown: `Fatal(UnknownOpcode(0x10, PC - 2))`. -/
  | fault
deriving DecidableEq, Repr

/-- `PC_OVERFLOW_POLICY` (R8, R23, D11): a fetch after PC has stepped past 0xFFFF. -/
inductive PcOverflowPolicy where
  /-- A sticky mark is set and the next fetch is fatal. The default. -/
  | fault
  /-- PC is a plain 16-bit counter and the mark does not exist. -/
  | wrap
deriving DecidableEq, Repr

/-- The named parameters of rule R8. A state carries one such record and no step changes it, so a
statement for every state is a statement for every choice of them. A row of a table below is a row
of the spec's opcode table, by its byte there: the bytes that a core's own map moves are listed as
pairs of a byte and the row it selects (DESIGN CHOICE, log entry 1: safe). -/
structure Config where
  /-- `OPCODE_MAP`, first bytes: those that select another row than their own. -/
  opcodeMap : List (Byte × Byte)
  /-- `OPCODE_MAP`, second bytes after the prefix: those that select another row than their own. -/
  cbMap : List (Byte × Byte)
  /-- `ILLEGAL`: the first bytes that are unknown opcodes. -/
  illegal : List Byte
  /-- `CYCLES`, by the row of the first table: the cycles of the instruction, not taken where it is
  conditional. -/
  cycles : List Nat
  /-- `CYCLES_TAKEN`, by the row of the first table: the cycles of a conditional transfer taken. -/
  cyclesTaken : List Nat
  /-- `CB_CYCLES`, by the row of the second table. -/
  cbCycles : List Nat
  /-- `IF_ADDR`: the address of the interrupt-request register. -/
  ifAddr : Word
  stopPolicy : StopPolicy
  pcOverflowPolicy : PcOverflowPolicy
  /-- `HALT_WAKE_PENALTY`: extra cycles of the first instruction after a halt wake. -/
  haltWakePenalty : Nat
  /-- `EXTRAM_DISABLED_READ`: the byte read from external RAM that is disabled or absent. -/
  extRamDisabledRead : Byte
  resetA : Byte
  resetF : Byte
  resetB : Byte
  resetC : Byte
  resetD : Byte
  resetE : Byte
  resetH : Byte
  resetL : Byte
  resetSp : Word
  resetPc : Word
  /-- `RESET_IME`: the interrupt master flag after reset. -/
  resetIme : Bool
deriving DecidableEq, Repr

/-- `INPUT_MASK` (R8, R80, I19): the host's live 8-bit button mask at the n-th read of 0xFF00.
FREE VALUE: any byte, drawn anew at each read (DESIGN CHOICE, log entry 4: safe). -/
opaque Config.inputMask : Nat → Byte

/-- The byte the n-th data read of a ROM address past the end of the image returns (R99, I5).
FREE VALUE: any byte, drawn anew at each such read (DESIGN CHOICE, log entry 5: safe). -/
opaque Config.romDraw : Nat → Byte

end Sys2Proof
end

