-- ==== Sys2Proof/WellFormed.lean ====
section
/-!
DEFINITION. Which terms of `Instr` are instructions of the machine. Every register, condition and
bit number is part of a constructor's name and every immediate takes every value of its width, so
only two constructors carry a check.
-/

namespace Sys2Proof

/-- `ILLEGAL` (R8, R134): the first bytes that select no instruction. -/
def illegalOpcodes : List Byte :=
  [0xD3, 0xDB, 0xDD, 0xE3, 0xE4, 0xEB, 0xEC, 0xED, 0xF4, 0xFC, 0xFD]

/-- Well-formed instructions.
* `illegal op` needs `op` to be one of the 11 bytes of `ILLEGAL` (R134).
* `prefixCb cb` is never one: the prefix "is not an instruction by itself" (R336); with its second
  byte it is one of the 256 instructions behind it (R133, R139). -/
def Instr.wellFormed : Instr → Bool
  | .illegal op => illegalOpcodes.contains op
  | .prefixCb _ => false
  | _ => true

/-- `Instr.wellFormed` as a proposition. -/
abbrev Instr.WellFormed (i : Instr) : Prop := i.wellFormed = true

end Sys2Proof
end

