-- ==== Sys2Proof/Machine/Defaults.lean ====
section
/-!
DEFINITION. The defaults of the parameters of rule R8: the cycle tables, sixteen rows of the opcode
table a line, the set of unknown opcodes, and the post-boot register values (R38). They stand apart
from the record's type so that one value can be mended alone.
-/

namespace Sys2Proof

/-- The default of `CYCLES` (R8, R551, D2): the `cycles` column of the first table. The prefix and the
unknown opcodes have 0. -/
def defaultCycles : List Nat :=
  [4, 12, 8, 8, 4, 4, 8, 4, 20, 8, 8, 8, 4, 4, 8, 4] ++
  [4, 12, 8, 8, 4, 4, 8, 4, 12, 8, 8, 8, 4, 4, 8, 4] ++
  [8, 12, 8, 8, 4, 4, 8, 4, 8, 8, 8, 8, 4, 4, 8, 4] ++
  [8, 12, 8, 8, 12, 12, 12, 4, 8, 8, 8, 8, 4, 4, 8, 4] ++
  [4, 4, 4, 4, 4, 4, 8, 4, 4, 4, 4, 4, 4, 4, 8, 4] ++
  [4, 4, 4, 4, 4, 4, 8, 4, 4, 4, 4, 4, 4, 4, 8, 4] ++
  [4, 4, 4, 4, 4, 4, 8, 4, 4, 4, 4, 4, 4, 4, 8, 4] ++
  [8, 8, 8, 8, 8, 8, 4, 8, 4, 4, 4, 4, 4, 4, 8, 4] ++
  [4, 4, 4, 4, 4, 4, 8, 4, 4, 4, 4, 4, 4, 4, 8, 4] ++
  [4, 4, 4, 4, 4, 4, 8, 4, 4, 4, 4, 4, 4, 4, 8, 4] ++
  [4, 4, 4, 4, 4, 4, 8, 4, 4, 4, 4, 4, 4, 4, 8, 4] ++
  [4, 4, 4, 4, 4, 4, 8, 4, 4, 4, 4, 4, 4, 4, 8, 4] ++
  [8, 12, 12, 16, 12, 16, 8, 16, 8, 16, 12, 0, 12, 24, 8, 16] ++
  [8, 12, 12, 0, 12, 16, 8, 16, 8, 16, 12, 0, 12, 0, 8, 16] ++
  [12, 12, 8, 0, 0, 16, 8, 16, 16, 4, 16, 0, 0, 0, 8, 16] ++
  [12, 12, 8, 4, 0, 16, 8, 16, 12, 8, 16, 4, 0, 0, 8, 16]

/-- The default of `CYCLES_TAKEN` (R8, R551, D2): the `cycles_taken` column, 0 where the table has
none. -/
def defaultCyclesTaken : List Nat :=
  List.replicate 32 0 ++
  [12, 0, 0, 0, 0, 0, 0, 0, 12, 0, 0, 0, 0, 0, 0, 0] ++
  [12, 0, 0, 0, 0, 0, 0, 0, 12, 0, 0, 0, 0, 0, 0, 0] ++
  List.replicate 128 0 ++
  [20, 0, 16, 0, 24, 0, 0, 0, 20, 0, 16, 0, 24, 0, 0, 0] ++
  [20, 0, 16, 0, 24, 0, 0, 0, 20, 0, 16, 0, 24, 0, 0, 0] ++
  List.replicate 32 0

/-- The default of `CB_CYCLES` (R8, R551, D2): the `cycles` column of the second table. -/
def defaultCbCycles : List Nat :=
  [8, 8, 8, 8, 8, 8, 16, 8, 8, 8, 8, 8, 8, 8, 16, 8] ++
  [8, 8, 8, 8, 8, 8, 16, 8, 8, 8, 8, 8, 8, 8, 16, 8] ++
  [8, 8, 8, 8, 8, 8, 16, 8, 8, 8, 8, 8, 8, 8, 16, 8] ++
  [8, 8, 8, 8, 8, 8, 16, 8, 8, 8, 8, 8, 8, 8, 16, 8] ++
  [8, 8, 8, 8, 8, 8, 12, 8, 8, 8, 8, 8, 8, 8, 12, 8] ++
  [8, 8, 8, 8, 8, 8, 12, 8, 8, 8, 8, 8, 8, 8, 12, 8] ++
  [8, 8, 8, 8, 8, 8, 12, 8, 8, 8, 8, 8, 8, 8, 12, 8] ++
  [8, 8, 8, 8, 8, 8, 12, 8, 8, 8, 8, 8, 8, 8, 12, 8] ++
  [8, 8, 8, 8, 8, 8, 16, 8, 8, 8, 8, 8, 8, 8, 16, 8] ++
  [8, 8, 8, 8, 8, 8, 16, 8, 8, 8, 8, 8, 8, 8, 16, 8] ++
  [8, 8, 8, 8, 8, 8, 16, 8, 8, 8, 8, 8, 8, 8, 16, 8] ++
  [8, 8, 8, 8, 8, 8, 16, 8, 8, 8, 8, 8, 8, 8, 16, 8] ++
  [8, 8, 8, 8, 8, 8, 16, 8, 8, 8, 8, 8, 8, 8, 16, 8] ++
  [8, 8, 8, 8, 8, 8, 16, 8, 8, 8, 8, 8, 8, 8, 16, 8] ++
  [8, 8, 8, 8, 8, 8, 16, 8, 8, 8, 8, 8, 8, 8, 16, 8] ++
  [8, 8, 8, 8, 8, 8, 16, 8, 8, 8, 8, 8, 8, 8, 16, 8]

/-- The defaults of rule R8 (D1 to D6, D9, D11, D13, D19; the map is the opcode table itself). The
register values, the cycle counts and the address of IF are the family's (PRESUMED, log entries 2
and 11: unsafe). -/
def Config.default : Config where
  opcodeMap := []
  cbMap := []
  illegal := illegalOpcodes
  cycles := defaultCycles
  cyclesTaken := defaultCyclesTaken
  cbCycles := defaultCbCycles
  ifAddr := 0xFF0F
  stopPolicy := .stuck
  pcOverflowPolicy := .fault
  haltWakePenalty := 4
  extRamDisabledRead := 0xFF
  resetA := 0x01
  resetF := 0xB0
  resetB := 0x00
  resetC := 0x13
  resetD := 0x00
  resetE := 0xD8
  resetH := 0x01
  resetL := 0x4D
  resetSp := 0xFFFE
  resetPc := 0x0100
  resetIme := false

end Sys2Proof
end

