-- ==== Sys2Proof/Machine/State.lean ====
section
/-!
DEFINITION. Every piece of state the spec gives the machine (R20 to R38, R90, R420, R470), as plain
data, the reasons a step can stop, and the state after reset (R38, R520). The fields that are the
model's own (`inputReads`, `romDraws`, `signals`, `vblank`, `cfg`) say so (DESIGN CHOICE, log entry 16:
safe).
-/

namespace Sys2Proof.Machine

/-- A byte store: (address, byte) cells in rising address order, none of them zero. An address that
is not listed reads as 0x00 ("zero memory", R38, R520). -/
abbrev Memory := List Host.Cell

/-- A store of a given size: the ROM image or the external RAM. Only offsets below `size` exist. -/
structure Image where
  size : Nat
  data : Memory
deriving DecidableEq, Repr

/-- The controllers of rule R90. -/
inductive MbcKind where
  | noMbc | mbc1 | mbc3 | mbc5
deriving DecidableEq, Repr

/-- The four registers of the memory bank controller and its kind (R90, R98). MBC1 keeps its 5-bit
ROM bank register in the low bits of `romReg` and its 2-bit register in `ramReg` (R92). -/
structure Mbc where
  kind : MbcKind
  romReg : BitVec 7
  ramReg : BitVec 2
  mode : Bool
  ramEnable : Bool
deriving DecidableEq, Repr

/-- The divider and timer sub-counters (R36, R380, R381). -/
structure Timer where
  divSub : Nat
  timaSub : Nat
deriving DecidableEq, Repr

/-- PPU modes 0 to 3 (R420). -/
inductive PpuMode where
  | hblank | vblank | oamScan | transfer
deriving DecidableEq, Repr

/-- PPU state (R420). `fb` is 144 rows of 160 shades, `bgIdx` the background colour indices of the
line being composed, `sprites` the OAM indices chosen for the line. -/
structure Ppu where
  mode : PpuMode
  modeClock : Nat
  line : Nat
  fb : List (List (BitVec 2))
  bgIdx : List (BitVec 2)
  sprites : List Nat
deriving DecidableEq, Repr

/-- Channels 1 and 2 of the APU (R470). -/
structure Pulse where
  enabled : Bool
  length : Nat
  lenEn : Bool
  vol : BitVec 4
  envTimer : BitVec 3
  freq : BitVec 11
  dutyPos : BitVec 3
  freqTimer : Nat
deriving DecidableEq, Repr

/-- Channel 3 of the APU (R470). -/
structure Wave where
  enabled : Bool
  length : Nat
  lenEn : Bool
  freq : BitVec 11
  wavePos : BitVec 5
  freqTimer : Nat
deriving DecidableEq, Repr

/-- Channel 4 of the APU (R470). -/
structure Noise where
  enabled : Bool
  length : Nat
  lenEn : Bool
  vol : BitVec 4
  envTimer : BitVec 3
  lfsr : BitVec 15
  freqTimer : Nat
deriving DecidableEq, Repr

/-- APU state (R470); the register bytes and the wave RAM are in memory. -/
structure Apu where
  power : Bool
  fsStep : BitVec 3
  fsClock : Nat
  ch1 : Pulse
  ch2 : Pulse
  ch3 : Wave
  ch4 : Noise
  shadow : BitVec 11
  sweepTimer : BitVec 3
deriving DecidableEq, Repr

/-- Why the core is stopped (R31, R351). The first three are the fatal faults; `stopInstruction`
is not a fault (R333). -/
inductive StopReason where
  | unknownOpcode (op : Byte) (addr : Word)
  | fetchOutOfRange (addr : Word)
  | pcOutOfRange
  | stopInstruction
deriving DecidableEq, Repr

/-- The run state (R31, R396); `running` covers both executing and halted. -/
inductive Run where
  | running
  | stopped (r : StopReason)
deriving DecidableEq, Repr

/-- What the core tells the host beside its state (R353, R534). -/
inductive Signal where
  /-- `Unsupported(RtcLatch)`, not fatal (R93). -/
  | unsupportedRtcLatch
  /-- RAM was disabled: the host persists the external RAM (R92, R96). -/
  | persistRam
  /-- The persisted bytes did not have the requested size; the RAM is zeroed (R96). -/
  | saveSizeMismatch
deriving DecidableEq, Repr

/-- The state of the machine. -/
@[ext]
structure State where
  /-- Accumulator (R20). -/
  a : Byte
  /-- Flags: bits 7 to 4 are Z, N, H, C (R24). -/
  f : Byte
  b : Byte
  c : Byte
  d : Byte
  e : Byte
  h : Byte
  l : Byte
  /-- Stack pointer (R22). -/
  sp : Word
  /-- Program counter (R23). -/
  pc : Word
  /-- Cycle counter (R26). -/
  cycles : Nat
  /-- R27. -/
  halted : Bool
  /-- Interrupt master enable (R28). -/
  ime : Bool
  /-- Pending interrupt enable (R29). -/
  pendingIE : Bool
  /-- R30. -/
  wakePenalty : Bool
  /-- PC has stepped past 0xFFFF (R23). -/
  pcOverflow : Bool
  /-- R31. -/
  run : Run
  /-- The 65,536-byte array (R35, R70), IF, IE and every device register among its bytes. -/
  mem : Memory
  /-- The cartridge's ROM image; size 0 when none is loaded (R37, R99). -/
  rom : Image
  mbc : Mbc
  /-- The controller's external RAM; its size is `ramSize` (R97). -/
  extRam : Image
  timer : Timer
  ppu : Ppu
  apu : Apu
  /-- MODEL'S OWN: what the last iteration returned (R360, R365). -/
  vblank : Bool
  /-- MODEL'S OWN: the signals raised so far, oldest first (R93, R353). -/
  signals : List Signal
  /-- MODEL'S OWN: how many reads of 0xFF00 there have been; the argument of `Config.inputMask`. -/
  inputReads : Nat
  /-- MODEL'S OWN: how many out-of-range ROM data reads; the argument of `Config.romDraw`. -/
  romDraws : Nat
  /-- The parameters of the machine (R8); no step changes them. -/
  cfg : Config
deriving DecidableEq, Repr

/-- Why a step answers no next state. No meaning of an instruction answers one: each of these is
raised by `step`, in a state whose `run` is already `stopped`. -/
inductive Fault where
  /-- Raised by `step` in `stopped(UnknownOpcode)` (R350, R351). Safe: the spec has no next state. -/
  | unknownOpcode (op : Byte) (addr : Word)
  /-- Raised by `step` in `stopped(FetchOutOfRange)` (R99, R351). Safe: the spec has no next state. -/
  | fetchOutOfRange (addr : Word)
  /-- Raised by `step` in `stopped(PcOutOfRange)` (R23, R351). Safe: the spec has no next state. -/
  | pcOutOfRange
  /-- Raised by `step` in `stopped(StopInstruction)`, the stuck state after `STOP`, which the spec
  does not call a fault (R333, R395). Safe: the spec has no next state. -/
  | stopInstruction
deriving DecidableEq, Repr

/-- Refusals. None is ever answered: every instruction has its meaning. -/
inductive Refusal where
  /-- An arm of `exec` that has no meaning yet. Raised by no arm. Safe. -/
  | notModelled (mnemonic : String)
deriving DecidableEq, Repr

/-! ### Reset -/

/-- The default controller with its registers at their load values (R38, R91, R520, R525). -/
def Mbc.fresh (kind : MbcKind) : Mbc where
  kind := kind
  romReg := 1
  ramReg := 0
  mode := false
  ramEnable := false

/-- R437. -/
def Ppu.reset : Ppu where
  mode := .oamScan
  modeClock := 0
  line := 0
  fb := List.replicate 144 (List.replicate 160 0)
  bgIdx := List.replicate 160 0
  sprites := []

/-- A pulse channel's reset value (R471). -/
def Pulse.reset : Pulse where
  enabled := false
  length := 0
  lenEn := false
  vol := 0
  envTimer := 0
  freq := 0
  dutyPos := 0
  freqTimer := 0

/-- The wave channel's reset value (R471). -/
def Wave.reset : Wave where
  enabled := false
  length := 0
  lenEn := false
  freq := 0
  wavePos := 0
  freqTimer := 0

/-- The noise channel's reset value; the shift register is all ones (R471). -/
def Noise.reset : Noise where
  enabled := false
  length := 0
  lenEn := false
  vol := 0
  envTimer := 0
  lfsr := 0x7FFF
  freqTimer := 0

/-- R471. -/
def Apu.reset : Apu where
  power := false
  fsStep := 0
  fsClock := 0
  ch1 := Pulse.reset
  ch2 := Pulse.reset
  ch3 := Wave.reset
  ch4 := Noise.reset
  shadow := 0
  sweepTimer := 0

/-- `reset()` under the parameters `p` (R38, R520): memory zero, no ROM behind the default
controller, the registers at `RESET_*`, every other piece of state at its value of R38. -/
def State.resetOf (p : Config) : State where
  a := p.resetA
  f := p.resetF
  b := p.resetB
  c := p.resetC
  d := p.resetD
  e := p.resetE
  h := p.resetH
  l := p.resetL
  sp := p.resetSp
  pc := p.resetPc
  cycles := 0
  halted := false
  ime := p.resetIme
  pendingIE := false
  wakePenalty := false
  pcOverflow := false
  run := .running
  mem := []
  rom := { size := 0, data := [] }
  mbc := Mbc.fresh .noMbc
  extRam := { size := 0, data := [] }
  timer := { divSub := 0, timaSub := 0 }
  ppu := Ppu.reset
  apu := Apu.reset
  vblank := false
  signals := []
  inputReads := 0
  romDraws := 0
  cfg := p

/-- The machine right after reset, at the spec's defaults (R38). -/
def State.reset : State := State.resetOf Config.default

end Sys2Proof.Machine
end

