-- ==== Sys2Proof/Machine/Memory.lean ====
section
/-!
DEFINITION. The operations on a byte store: reading, writing in canonical form, and the predicate
that says a store is in that form. The bus array, the ROM image and the external RAM are all such
stores.
-/

namespace Sys2Proof.Machine

/-- The byte at an address; 0x00 where nothing is listed (R38; DEDUCED, log entry 12: safe). -/
def Memory.read : Memory → Nat → Byte
  | [], _ => 0
  | (k, v) :: m, n => if k = n then v else Memory.read m n

/-- The store without any cell at `n`. -/
def Memory.erase (m : Memory) (n : Nat) : Memory := m.filter (fun cell => cell.1 ≠ n)

/-- A cell placed before the first cell with a higher address. -/
def Memory.place : Memory → Nat → Byte → Memory
  | [], n, v => [(n, v)]
  | (k, w) :: m, n, v => if n < k then (n, v) :: (k, w) :: m else (k, w) :: Memory.place m n v

/-- One byte written. Writing 0x00, what an unlisted address reads as, removes the cell. -/
def Memory.write (m : Memory) (n : Nat) (v : Byte) : Memory :=
  if v = 0 then Memory.erase m n else Memory.place (Memory.erase m n) n v

/-- The canonical form: addresses strictly rising, no cell that reads as an unlisted address does. -/
abbrev Memory.wf (m : Memory) : Prop :=
  m.Pairwise (fun x y => x.1 < y.1) ∧ ∀ cell ∈ m, cell.2 ≠ 0

/-- Every listed address is below `n`. -/
abbrev Memory.below (m : Memory) (n : Nat) : Prop := ∀ cell ∈ m, cell.1 < n

/-- A list of bytes as a store, the first byte at address `base`. -/
def Memory.ofBytes : Nat → List Byte → Memory
  | _, [] => []
  | base, v :: vs =>
    if v = 0 then Memory.ofBytes (base + 1) vs else (base, v) :: Memory.ofBytes (base + 1) vs

/-- Raw access to the byte array, with no bus side effect (the `mem[a]` of the spec). -/
def State.peek (s : State) (n : Nat) : Byte := Memory.read s.mem n

/-- Raw store to the byte array (the `mem[a] <- v` of the spec). -/
def State.poke (s : State) (n : Nat) (v : Byte) : State := { s with mem := Memory.write s.mem n v }

end Sys2Proof.Machine
end

