-- ==== Sys2Proof/Machine/Apu.lean ====
section
/-!
DEFINITION. The APU: register writes and power (R471 to R473), trigger (R485), the frame sequencer
and what it clocks (R480 to R484), the channels' waveform timers (R490 to R493), the status nibble
(R510), and the amplitudes handed to the host (R490 to R494).
-/

namespace Sys2Proof.Machine

/-! ### Register fields -/

/-- The read masks of rule R83, by offset from 0xFF10. -/
def apuReadMask (off : Nat) : Byte :=
  ([0x80, 0x3F, 0x00, 0xFF, 0xBF, 0xFF, 0x3F, 0x00, 0xFF, 0xBF,
    0x7F, 0xFF, 0x9F, 0xFF, 0xBF, 0xFF, 0xFF, 0x00, 0x00, 0xBF,
    0x00, 0x00, 0x70, 0xFF, 0xFF, 0xFF, 0xFF, 0xFF, 0xFF, 0xFF, 0xFF, 0xFF] : List Byte).getD off 0

/-- The DAC of channel 1, 2 or 4 is on: NRk2[7:3] is not zero (R473, R485). -/
def dacOn (nr2 : Byte) : Bool := nr2.extractLsb' 3 5 != 0

/-- `64 - v[5:0]`: the length load of channels 1, 2 and 4 (R472, R473). -/
def lengthLoad64 (v : Byte) : Nat := 64 - (v.extractLsb' 0 6).toNat

/-- `256 - v`: the length load of channel 3 (R472, R473). -/
def lengthLoad256 (v : Byte) : Nat := 256 - v.toNat

/-- An 11-bit frequency with its low byte replaced (R473, NRk3). -/
def freqLow (f : BitVec 11) (v : Byte) : BitVec 11 := f.extractLsb' 8 3 ++ v

/-- An 11-bit frequency with bits 10:8 replaced (R473, NRk4). -/
def freqHigh (f : BitVec 11) (v : Byte) : BitVec 11 := v.extractLsb' 0 3 ++ f.extractLsb' 0 8

/-- Cycles between waveform steps of a pulse channel (R490, R491). -/
def pulsePeriod (f : BitVec 11) : Nat := (2048 - f.toNat) * 4

/-- Cycles between sample steps of the wave channel (R492). -/
def wavePeriod (f : BitVec 11) : Nat := (2048 - f.toNat) * 2

/-- Cycles between clocks of the noise shift register: `DIVISOR[d] << s` (R493). -/
def noisePeriod (nr43 : Byte) : Nat :=
  ([8, 16, 32, 48, 64, 80, 96, 112] : List Nat).getD (nr43.extractLsb' 0 3).toNat 8
    * 2 ^ (nr43.extractLsb' 4 4).toNat

/-! ### Trigger -/

/-- Trigger of a pulse channel, given its NRk2 (R485). -/
def Pulse.trigger (ch : Pulse) (nr2 : Byte) : Pulse :=
  { ch with
    enabled := dacOn nr2
    length := if ch.length = 0 then 64 else ch.length
    envTimer := nr2.extractLsb' 0 3
    vol := nr2.extractLsb' 4 4
    freqTimer := pulsePeriod ch.freq }

/-- Trigger of the wave channel, given NR30 (R485). -/
def Wave.trigger (ch : Wave) (nr30 : Byte) : Wave :=
  { ch with
    enabled := nr30.getLsbD 7
    length := if ch.length = 0 then 256 else ch.length
    wavePos := 0
    freqTimer := wavePeriod ch.freq }

/-- Trigger of the noise channel, given NR42 and NR43 (R485). -/
def Noise.trigger (ch : Noise) (nr42 nr43 : Byte) : Noise :=
  { ch with
    enabled := dacOn nr42
    length := if ch.length = 0 then 64 else ch.length
    envTimer := nr42.extractLsb' 0 3
    vol := nr42.extractLsb' 4 4
    lfsr := 0x7FFF
    freqTimer := noisePeriod nr43 }

/-! ### Register writes -/

/-- NRk4 of a pulse channel: length enable, frequency bits 10:8, then the trigger (R473). -/
def Pulse.writeControl (ch : Pulse) (nr2 v : Byte) : Pulse :=
  let ch := { ch with lenEn := v.getLsbD 6, freq := freqHigh ch.freq v }
  if v.getLsbD 7 then ch.trigger nr2 else ch

/-- NR34 (R473). -/
def Wave.writeControl (ch : Wave) (nr30 v : Byte) : Wave :=
  let ch := { ch with lenEn := v.getLsbD 6, freq := freqHigh ch.freq v }
  if v.getLsbD 7 then ch.trigger nr30 else ch

/-- NR44 (R473). -/
def Noise.writeControl (ch : Noise) (nr42 nr43 v : Byte) : Noise :=
  let ch := { ch with lenEn := v.getLsbD 6 }
  if v.getLsbD 7 then ch.trigger nr42 nr43 else ch

/-- NRk2 of a pulse channel: a DAC switched off silences the channel (R473). -/
def Pulse.writeEnvelope (ch : Pulse) (v : Byte) : Pulse :=
  { ch with enabled := ch.enabled && dacOn v }

/-- NR14: channel 1's control, and on a trigger the sweep unit's reload (R473, R485). -/
def Apu.writeNr14 (u : Apu) (m : Memory) (v : Byte) : Apu :=
  let ch := u.ch1.writeControl (Memory.read m 0xFF12) v
  let u := { u with ch1 := ch }
  if v.getLsbD 7 then
    { u with shadow := ch.freq, sweepTimer := (Memory.read m 0xFF10).extractLsb' 4 3 }
  else u

/-- `APU.writeRegister(a, v)` with the power on, for every address but NR52 (R473); `m` is the byte
array with `v` already stored. -/
def Apu.writeRegister (u : Apu) (m : Memory) (n : Nat) (v : Byte) : Apu :=
  if n = 0xFF11 then { u with ch1 := { u.ch1 with length := lengthLoad64 v } }
  else if n = 0xFF12 then { u with ch1 := u.ch1.writeEnvelope v }
  else if n = 0xFF13 then { u with ch1 := { u.ch1 with freq := freqLow u.ch1.freq v } }
  else if n = 0xFF14 then u.writeNr14 m v
  else if n = 0xFF16 then { u with ch2 := { u.ch2 with length := lengthLoad64 v } }
  else if n = 0xFF17 then { u with ch2 := u.ch2.writeEnvelope v }
  else if n = 0xFF18 then { u with ch2 := { u.ch2 with freq := freqLow u.ch2.freq v } }
  else if n = 0xFF19 then { u with ch2 := u.ch2.writeControl (Memory.read m 0xFF17) v }
  else if n = 0xFF1A then { u with ch3 := { u.ch3 with enabled := u.ch3.enabled && v.getLsbD 7 } }
  else if n = 0xFF1B then { u with ch3 := { u.ch3 with length := lengthLoad256 v } }
  else if n = 0xFF1D then { u with ch3 := { u.ch3 with freq := freqLow u.ch3.freq v } }
  else if n = 0xFF1E then { u with ch3 := u.ch3.writeControl (Memory.read m 0xFF1A) v }
  else if n = 0xFF20 then { u with ch4 := { u.ch4 with length := lengthLoad64 v } }
  else if n = 0xFF21 then { u with ch4 := { u.ch4 with enabled := u.ch4.enabled && dacOn v } }
  else if n = 0xFF23 then
    { u with ch4 := u.ch4.writeControl (Memory.read m 0xFF21) (Memory.read m 0xFF22) v }
  else u

/-- A pulse channel at power off (R471). -/
def Pulse.powerOff (ch : Pulse) : Pulse :=
  { ch with enabled := false, length := 0, vol := 0, envTimer := 0, freq := 0, freqTimer := 0 }

/-- The channels at power off: nothing enabled, every length, timer, volume and frequency zero
(R471). -/
def Apu.powerOff (u : Apu) : Apu :=
  { u with
    power := false
    ch1 := u.ch1.powerOff
    ch2 := u.ch2.powerOff
    ch3 := { u.ch3 with enabled := false, length := 0, freq := 0, freqTimer := 0 }
    ch4 := { u.ch4 with enabled := false, length := 0, vol := 0, envTimer := 0, freqTimer := 0 }
    shadow := 0
    sweepTimer := 0 }

/-- Power on: every channel at its reset value, sequencer step 0, the first step 8,192 cycles away
(R471, R481; the counter's restart is DEDUCED, log entry 7: unsafe). -/
def Apu.powerOn : Apu := { Apu.reset with power := true }

/-- The registers 0xFF10 to 0xFF25 zeroed in the byte array (R471). -/
def clearApuRegisters (m : Memory) : Memory :=
  (List.range 22).foldl (fun m i => Memory.write m (0xFF10 + i) 0) m

/-- The power switch (R471): the array and the APU after it. Nothing happens when the power is as
asked for already. -/
def Apu.powerSwitch (u : Apu) (m : Memory) (on : Bool) : Memory × Apu :=
  if u.power && !on then (clearApuRegisters m, u.powerOff)
  else if on && !u.power then (m, Apu.powerOn)
  else (m, u)

/-- `APU.writeRegister(0xFF26, v)` (R471): the power switch; memory keeps bit 7 only. -/
def State.writeNr52 (s : State) (v : Byte) : State :=
  let r := s.apu.powerSwitch s.mem (v.getLsbD 7)
  { s with mem := r.1, apu := r.2 }.poke 0xFF26 (v &&& 0x80)

/-- `APU.writeRegister(a, v)` after the bus has stored `mem[a] <- v` (R471, R473): NR52 first; with
the power off a store to 0xFF10-0xFF25 is undone. -/
def State.apuWrite (s : State) (n : Nat) (v : Byte) : State :=
  if n = 0xFF26 then s.writeNr52 v
  else if s.apu.power then { s with apu := s.apu.writeRegister s.mem n v }
  else if n ≤ 0xFF25 then s.poke n 0
  else s

/-! ### The frame sequencer -/

/-- One length clock of a counter and its channel's enable (R482). -/
def lengthClock (lenEn : Bool) (length : Nat) (enabled : Bool) : Nat × Bool :=
  if lenEn && length > 0 then (length - 1, enabled && length - 1 != 0) else (length, enabled)

/-- `clockLength()` for a pulse channel (R482). -/
def Pulse.clockLength (ch : Pulse) : Pulse :=
  let r := lengthClock ch.lenEn ch.length ch.enabled
  { ch with length := r.1, enabled := r.2 }

/-- `clockLength()` for the wave channel (R482). -/
def Wave.clockLength (ch : Wave) : Wave :=
  let r := lengthClock ch.lenEn ch.length ch.enabled
  { ch with length := r.1, enabled := r.2 }

/-- `clockLength()` for the noise channel (R482). -/
def Noise.clockLength (ch : Noise) : Noise :=
  let r := lengthClock ch.lenEn ch.length ch.enabled
  { ch with length := r.1, enabled := r.2 }

/-- `clockLength()` (R482). -/
def Apu.clockLength (u : Apu) : Apu :=
  { u with
    ch1 := u.ch1.clockLength, ch2 := u.ch2.clockLength
    ch3 := u.ch3.clockLength, ch4 := u.ch4.clockLength }

/-- The frequency the sweep computes, unbounded: `shadow ± (shadow >> s)` (R483). -/
def sweepTarget (shadow : BitVec 11) (nr10 : Byte) : Nat :=
  let step := shadow.toNat / 2 ^ (nr10.extractLsb' 0 3).toNat
  if nr10.getLsbD 3 then shadow.toNat - step else shadow.toNat + step

/-- `clockSweep()` (R483), given NR10. The timer counts in its 3-bit type (DEDUCED, log
entry 8: unsafe where it is 0). -/
def Apu.clockSweep (u : Apu) (nr10 : Byte) : Apu :=
  let time := nr10.extractLsb' 4 3
  if !u.ch1.enabled || time == 0 then u
  else
    let timer := u.sweepTimer - 1
    if timer != 0 then { u with sweepTimer := timer }
    else
      let u := { u with sweepTimer := time }
      if nr10.extractLsb' 0 3 == 0 then u
      else
        let new := sweepTarget u.shadow nr10
        if new > 2047 then { u with ch1 := { u.ch1 with enabled := false } }
        else
          { u with
            shadow := BitVec.ofNat 11 new
            ch1 := { u.ch1 with freq := BitVec.ofNat 11 new } }

/-- One envelope clock, given NRk2: the new timer and volume (R484). The timer counts in its 3-bit
type (DEDUCED, log entry 8: unsafe where it is 0). -/
def envelopeClock (nr2 : Byte) (timer : BitVec 3) (vol : BitVec 4) : BitVec 3 × BitVec 4 :=
  let period := nr2.extractLsb' 0 3
  if period == 0 then (timer, vol)
  else if timer - 1 != 0 then (timer - 1, vol)
  else if nr2.getLsbD 3 then (period, if vol.toNat < 15 then vol + 1 else vol)
  else (period, if vol.toNat > 0 then vol - 1 else vol)

/-- `clockEnvelope()` for a pulse channel (R484). -/
def Pulse.clockEnvelope (ch : Pulse) (nr2 : Byte) : Pulse :=
  let r := envelopeClock nr2 ch.envTimer ch.vol
  { ch with envTimer := r.1, vol := r.2 }

/-- `clockEnvelope()` for the noise channel (R484). -/
def Noise.clockEnvelope (ch : Noise) (nr2 : Byte) : Noise :=
  let r := envelopeClock nr2 ch.envTimer ch.vol
  { ch with envTimer := r.1, vol := r.2 }

/-- `clockEnvelope()` (R484); channel 3 has no envelope. -/
def Apu.clockEnvelope (u : Apu) (m : Memory) : Apu :=
  { u with
    ch1 := u.ch1.clockEnvelope (Memory.read m 0xFF12)
    ch2 := u.ch2.clockEnvelope (Memory.read m 0xFF17)
    ch4 := u.ch4.clockEnvelope (Memory.read m 0xFF21) }

/-- One step of the frame sequencer: the actions of the current step, then the next step number
(R480, R481). -/
def Apu.sequencerStep (m : Memory) (u : Apu) : Apu :=
  let u :=
    if u.fsStep = 0 ∨ u.fsStep = 4 then u.clockLength
    else if u.fsStep = 2 ∨ u.fsStep = 6 then u.clockSweep (Memory.read m 0xFF10)
    else if u.fsStep = 7 then u.clockEnvelope m
    else u
  { u with fsStep := u.fsStep + 1 }

/-! ### Waveform timers -/

/-- A countdown of `timer` cycles with period `period`, advanced by `delta`: the cycles left and how
often it ran out. A timer at 0 is due at once (DEDUCED, log entry 9: unsafe for the
sound output alone). -/
def countdown (timer period delta : Nat) : Nat × Nat :=
  if delta < timer then (timer - delta, 0)
  else (period - (delta - timer) % period, 1 + (delta - timer) / period)

/-- A pulse channel's waveform position advanced by `delta` cycles (R490, R491). -/
def Pulse.advance (ch : Pulse) (delta : Nat) : Pulse :=
  let r := countdown ch.freqTimer (pulsePeriod ch.freq) delta
  { ch with freqTimer := r.1, dutyPos := ch.dutyPos + BitVec.ofNat 3 r.2 }

/-- The wave channel's sample position advanced by `delta` cycles (R492). -/
def Wave.advance (ch : Wave) (delta : Nat) : Wave :=
  let r := countdown ch.freqTimer (wavePeriod ch.freq) delta
  { ch with freqTimer := r.1, wavePos := ch.wavePos + BitVec.ofNat 5 r.2 }

/-- One clock of the noise shift register, given NR43 (R493). -/
def lfsrClock (nr43 : Byte) (x : BitVec 15) : BitVec 15 :=
  let bit : BitVec 1 := x.extractLsb' 0 1 ^^^ x.extractLsb' 1 1
  let y : BitVec 15 := bit ++ x.extractLsb' 1 14
  if nr43.getLsbD 3 then y.extractLsb' 7 8 ++ bit ++ y.extractLsb' 0 6 else y

/-- `f` applied `n` times. -/
def iterate {α : Type} (f : α → α) : Nat → α → α
  | 0, x => x
  | n + 1, x => iterate f n (f x)

/-- The noise channel advanced by `delta` cycles (R493). -/
def Noise.advance (ch : Noise) (nr43 : Byte) (delta : Nat) : Noise :=
  let r := countdown ch.freqTimer (noisePeriod nr43) delta
  { ch with freqTimer := r.1, lfsr := iterate (lfsrClock nr43) r.2 ch.lfsr }

/-- All four channels' waveform timers advanced by `delta` cycles (R480). -/
def Apu.advance (u : Apu) (m : Memory) (delta : Nat) : Apu :=
  { u with
    ch1 := u.ch1.advance delta
    ch2 := u.ch2.advance delta
    ch3 := u.ch3.advance delta
    ch4 := u.ch4.advance (Memory.read m 0xFF22) delta }

/-- `APU.update(delta)` (R480): nothing while the power is off. -/
def Apu.update (u : Apu) (m : Memory) (delta : Nat) : Apu :=
  if !u.power then u
  else
    let u := u.advance m delta
    let clock := u.fsClock + delta
    iterate (Apu.sequencerStep m) (clock / 8192) { u with fsClock := clock % 8192 }

/-- `APU.update(delta)` on the machine. -/
def State.apuUpdate (s : State) (delta : Nat) : State :=
  { s with apu := s.apu.update s.mem delta }

/-! ### What the CPU and the host see -/

/-- `APU.status()`: the live channel bits of NR52 (R510). -/
def Apu.status (u : Apu) : Byte :=
  (if u.ch4.enabled then 8 else 0) ||| (if u.ch3.enabled then 4 else 0) |||
    (if u.ch2.enabled then 2 else 0) ||| (if u.ch1.enabled then 1 else 0)

/-- The four 8-step duty patterns, written as in rule R490, the first step leftmost (DEDUCED, log
entry 24: unsafe for the sound output alone). -/
def dutyPattern (code : BitVec 2) : Byte :=
  ([0b00000001, 0b10000001, 0b10000111, 0b01111110] : List Byte).getD code.toNat 0

/-- Amplitude of a pulse channel, given NRk1 (R490, R491). -/
def Pulse.amplitude (ch : Pulse) (nr1 : Byte) : Nat :=
  if ch.enabled && (dutyPattern (nr1.extractLsb' 6 2)).getMsbD ch.dutyPos.toNat
  then ch.vol.toNat else 0

/-- The 4-bit sample at a position of the wave RAM, high nibble first (R472). -/
def waveSample (m : Memory) (pos : BitVec 5) : Nat :=
  let v := Memory.read m (0xFF30 + pos.toNat / 2)
  if pos.toNat % 2 = 0 then v.toNat / 16 else v.toNat % 16

/-- Amplitude of the wave channel: the sample shifted right by 4, 0, 1 or 2 (R492), silent when disabled
(DEDUCED, log entry 24). -/
def Wave.amplitude (ch : Wave) (m : Memory) : Nat :=
  let shift := ([4, 0, 1, 2] : List Nat).getD ((Memory.read m 0xFF1C).extractLsb' 5 2).toNat 0
  if ch.enabled then waveSample m ch.wavePos / 2 ^ shift else 0

/-- Amplitude of the noise channel (R493), silent when disabled (DEDUCED, log entry 24). -/
def Noise.amplitude (ch : Noise) : Nat :=
  if ch.enabled && !ch.lfsr.getLsbD 0 then ch.vol.toNat else 0

/-- The amplitudes of channels 1 to 4 (R490 to R493). -/
def State.amplitudes (s : State) : List Nat :=
  [s.apu.ch1.amplitude (s.peek 0xFF11), s.apu.ch2.amplitude (s.peek 0xFF16),
    s.apu.ch3.amplitude s.mem, s.apu.ch4.amplitude]

/-- The channels routed to one side, summed and scaled by its master volume plus 1 (R494):
`route` is the side's nibble of NR51, `volume` its field of NR50. -/
def mixSide (amps : List Nat) (route : BitVec 4) (volume : BitVec 3) : Nat :=
  ((List.range 4).map (fun k => if route.getLsbD k then amps.getD k 0 else 0)).sum
    * (volume.toNat + 1)

/-- The left output (R494). -/
def State.leftOutput (s : State) : Nat :=
  mixSide s.amplitudes ((s.peek 0xFF25).extractLsb' 4 4) ((s.peek 0xFF24).extractLsb' 4 3)

/-- The right output (R494). -/
def State.rightOutput (s : State) : Nat :=
  mixSide s.amplitudes ((s.peek 0xFF25).extractLsb' 0 4) ((s.peek 0xFF24).extractLsb' 0 3)

end Sys2Proof.Machine
end

