-- ==== Sys2Proof/Machine/Cart.lean ====
section
/-!
DEFINITION. The memory bank controller: which ROM and RAM bank is mapped, reads of the ROM image
and of the external RAM, and `manageWrite` (R90 to R99).
-/

namespace Sys2Proof.Machine

/-- The ROM bank at 0x4000-0x7FFF: always 1 for NoMBC (R91), `{bank2, bank5}` or `bank5` by the mode
for MBC1 (R92), the 7-bit register for MBC3 and MBC5 (R93, R94). -/
def Mbc.romBank (m : Mbc) : Nat :=
  match m.kind with
  | .noMbc => 1
  | .mbc1 =>
    let bank5 := m.romReg.extractLsb' 0 5
    if m.mode then bank5.toNat else (m.ramReg ++ bank5).toNat
  | .mbc3 => m.romReg.toNat
  | .mbc5 => m.romReg.toNat

/-- The external RAM bank: 0 for NoMBC, bank2 only in mode 1 for MBC1 (R92), the RAM bank register
for MBC3 and MBC5 (R93, R94). -/
def Mbc.ramBank (m : Mbc) : Nat :=
  match m.kind with
  | .noMbc => 0
  | .mbc1 => if m.mode then m.ramReg.toNat else 0
  | .mbc3 => m.ramReg.toNat
  | .mbc5 => m.ramReg.toNat

/-- The ROM offset behind an address below 0x8000 (R99). -/
def Mbc.romOffset (m : Mbc) (a : Word) : Nat :=
  if a.toNat < 0x4000 then a.toNat else m.romBank * 0x4000 + (a.toNat - 0x4000)

/-- The external RAM offset behind an address in 0xA000-0xBFFF (R97). -/
def Mbc.ramOffset (m : Mbc) (a : Word) : Nat := m.ramBank * 0x2000 + (a.toNat - 0xA000)

/-- Does the address map to a byte of the loaded image (R99)? -/
def State.romInRange (s : State) (a : Word) : Bool := s.mbc.romOffset a < s.rom.size

/-- `readRom(a)` as a data read (R99): past the end of the image the byte is a free value (I5). -/
def State.readRom (s : State) (a : Word) : Byte :=
  if s.romInRange a then Memory.read s.rom.data (s.mbc.romOffset a) else Config.romDraw s.romDraws

/-- Is the external RAM byte behind the address there (R97)? -/
def State.ramPresent (s : State) (a : Word) : Bool :=
  s.mbc.ramEnable && s.mbc.ramOffset a < s.extRam.size

/-- `readRam(a)` (R97). -/
def State.readRam (s : State) (a : Word) : Byte :=
  if s.ramPresent a then Memory.read s.extRam.data (s.mbc.ramOffset a)
  else s.cfg.extRamDisabledRead

/-- `ramWrite(a, v)` (R97): ignored where there is no such byte. -/
def State.ramWrite (s : State) (a : Word) (v : Byte) : State :=
  if s.ramPresent a then
    { s with extRam := { s.extRam with
        data := Memory.write s.extRam.data (s.mbc.ramOffset a) v } }
  else s

/-- The RAM-enable window: low nibble 0xA enables, anything else disables; disabling RAM that was
enabled asks the host to persist it (R92, R96, D34; DEDUCED, log entry 21: safe for the CPU). -/
def State.writeRamEnable (s : State) (v : Byte) : State :=
  let on : Bool := v &&& 0x0F = 0x0A
  { s with
    mbc := { s.mbc with ramEnable := on }
    signals := if s.mbc.ramEnable && !on then s.signals ++ [Signal.persistRam] else s.signals }

/-- A ROM bank register's value, with zero coerced to 1 (R95). -/
def coerceBank (r : BitVec 7) : BitVec 7 := if r = 0 then 1 else r

/-- The ROM-bank window: five bits for MBC1 (R92), seven for MBC3 and MBC5 (R93, R94), nothing for
NoMBC (R91). -/
def State.writeRomBank (s : State) (v : Byte) : State :=
  match s.mbc.kind with
  | .noMbc => s
  | .mbc1 =>
    { s with mbc := { s.mbc with romReg := coerceBank ((v.extractLsb' 0 5).zeroExtend 7) } }
  | .mbc3 => { s with mbc := { s.mbc with romReg := coerceBank (v.extractLsb' 0 7) } }
  | .mbc5 => { s with mbc := { s.mbc with romReg := coerceBank (v.extractLsb' 0 7) } }

/-- The RAM-bank window, two bits (R92, R93, R94). -/
def State.writeRamBank (s : State) (v : Byte) : State :=
  match s.mbc.kind with
  | .noMbc => s
  | .mbc1 => { s with mbc := { s.mbc with ramReg := v.extractLsb' 0 2 } }
  | .mbc3 => { s with mbc := { s.mbc with ramReg := v.extractLsb' 0 2 } }
  | .mbc5 => { s with mbc := { s.mbc with ramReg := v.extractLsb' 0 2 } }

/-- The last ROM window: the banking mode for MBC1 (R92); for MBC3 and MBC5 the clock latch, which
only raises a signal (R93, R94). -/
def State.writeModeOrLatch (s : State) (v : Byte) : State :=
  match s.mbc.kind with
  | .noMbc => s
  | .mbc1 => { s with mbc := { s.mbc with mode := v.getLsbD 0 } }
  | .mbc3 => { s with signals := s.signals ++ [Signal.unsupportedRtcLatch] }
  | .mbc5 => { s with signals := s.signals ++ [Signal.unsupportedRtcLatch] }

/-- `MBC.manageWrite(a, v)` for an address below 0x8000 or in 0xA000-0xBFFF (R91 to R94). -/
def State.manageWrite (s : State) (a : Word) (v : Byte) : State :=
  if a.toNat ≤ 0x1FFF then s.writeRamEnable v
  else if a.toNat ≤ 0x3FFF then s.writeRomBank v
  else if a.toNat ≤ 0x5FFF then s.writeRamBank v
  else if a.toNat ≤ 0x7FFF then s.writeModeOrLatch v
  else s.ramWrite a v

end Sys2Proof.Machine
end

