-- ==== Sys2Proof/Machine/Bus.lean ====
section
/-!
DEFINITION. The bus, the sole point of address decoding (R70, R71): reads with their synthesised
values, writes with their side effects, OAM DMA (R81), and 16-bit accesses as two byte accesses
(R62).
-/

namespace Sys2Proof.Machine

/-- The joypad byte: selector `sel`, live button mask `mask` (R80). -/
def joypadValue (sel mask : Byte) : Byte :=
  let dir : BitVec 4 := if sel.getLsbD 4 then 0xF else ~~~(mask.extractLsb' 0 4)
  let act : BitVec 4 := if sel.getLsbD 5 then 0xF else ~~~(mask.extractLsb' 4 4)
  0xC0 ||| (sel &&& 0x30) ||| (dir &&& act).zeroExtend 8

/-- `readByte(a)` (R70): the byte the bus answers. -/
def State.busRead (s : State) (a : Word) : Byte :=
  if a.toNat < 0x8000 then s.readRom a
  else if 0xA000 ≤ a.toNat ∧ a.toNat ≤ 0xBFFF then s.readRam a
  else if a.toNat = 0xFF00 then joypadValue (s.peek 0xFF00) (Config.inputMask s.inputReads)
  else if a.toNat = 0xFF26 then s.peek 0xFF26 ||| 0x70 ||| s.apu.status
  else if 0xFF10 ≤ a.toNat ∧ a.toNat ≤ 0xFF3F then
    s.peek a.toNat ||| apuReadMask (a.toNat - 0xFF10)
  else s.peek a.toNat

/-- What a bus read leaves (R66): no read has a side effect on the machine's state; only the
model's counters of free values move on, at 0xFF00 and past the end of the ROM image. -/
def State.busTouch (s : State) (a : Word) : State :=
  if a.toNat < 0x8000 then
    if s.romInRange a then s else { s with romDraws := s.romDraws + 1 }
  else if a.toNat = 0xFF00 then { s with inputReads := s.inputReads + 1 }
  else s

/-- One byte of the OAM DMA copy: a bus read of the source, a raw store to OAM (R81, D25). -/
def State.dmaByte (v : Byte) (s : State) (i : Nat) : State :=
  let src := mkWord v 0 + BitVec.ofNat 16 i
  (s.busTouch src).poke (0xFE00 + i) (s.busRead src)

/-- `dma(v)`: 0xA0 bytes from `v << 8` into OAM, at once (R81). -/
def State.dma (s : State) (v : Byte) : State := (List.range 0xA0).foldl (State.dmaByte v) s

/-- `writeByte(a, v)` (R71). -/
def State.busWrite (s : State) (a : Word) (v : Byte) : State :=
  if a.toNat < 0x8000 then s.manageWrite a v
  else if 0xA000 ≤ a.toNat ∧ a.toNat ≤ 0xBFFF then s.manageWrite a v
  else if 0xC000 ≤ a.toNat ∧ a.toNat ≤ 0xDDFF then (s.poke a.toNat v).poke (a.toNat + 0x2000) v
  else if 0xE000 ≤ a.toNat ∧ a.toNat ≤ 0xFDFF then (s.poke a.toNat v).poke (a.toNat - 0x2000) v
  else if a.toNat = 0xFF04 then
    let s := s.poke 0xFF04 0
    { s with timer := { s.timer with divSub := 0 } }
  else if 0xFF10 ≤ a.toNat ∧ a.toNat ≤ 0xFF3F then (s.poke a.toNat v).apuWrite a.toNat v
  else if a.toNat = 0xFF46 then (s.poke 0xFF46 v).dma v
  else s.poke a.toNat v

/-- `MemWrite(a, 2, v)` (R11, R62): low byte first, the high byte at the next address. -/
def State.busWrite16 (s : State) (a v : Word) : State :=
  (s.busWrite a (loByte v)).busWrite (a + 1) (hiByte v)

end Sys2Proof.Machine
end

