-- ==== Sys2Proof/Machine/Flags.lean ====
section
/-!
DEFINITION. Every result and flag computation of the spec as a function of bytes and words: the
flag byte (R24, R25, R210), 8-bit addition and subtraction (R237), logic (R220 to R225), increment
and decrement (R228 to R231), decimal adjust (R232), 16-bit addition (R250), the SP-relative sum
(R193, R253), rotates, shifts and swap (R261 to R272), and the bit operations (R273 to R275).
-/

namespace Sys2Proof.Machine

/-! ### The flag byte -/

/-- `{z, n, h, c, 0b0000}` (R11, R24). -/
def packFlags (z n h c : Bool) : Byte :=
  (if z then 0x80 else 0) ||| (if n then 0x40 else 0) ||| (if h then 0x20 else 0) |||
    (if c then 0x10 else 0)

/-- F[7] (R24). -/
def flagZ (f : Byte) : Bool := f.getLsbD 7

/-- F[6] (R24). -/
def flagN (f : Byte) : Bool := f.getLsbD 6

/-- F[5] (R24). -/
def flagH (f : Byte) : Bool := f.getLsbD 5

/-- F[4] (R24). -/
def flagC (f : Byte) : Bool := f.getLsbD 4

/-- A result with the flag byte that goes with it. -/
structure Flagged (n : Nat) where
  value : BitVec n
  flags : Byte
deriving DecidableEq, Repr

/-! ### 8-bit arithmetic and logic -/

/-- `add8(a, b, cin)` (R237), computed in naturals. -/
def add8 (a b : Byte) (cin : Bool) : Flagged 8 :=
  let r := a.toNat + b.toNat + cin.toNat
  { value := BitVec.ofNat 8 r
    flags := packFlags (BitVec.ofNat 8 r = 0) false
      (a.toNat % 16 + b.toNat % 16 + cin.toNat > 0xF) (r > 0xFF) }

/-- `sub8(a, b, cin)` (R237), computed in integers: C and H are borrows (R236). -/
def sub8 (a b : Byte) (cin : Bool) : Flagged 8 :=
  let r : Int := (a.toNat : Int) - b.toNat - cin.toNat
  { value := BitVec.ofInt 8 r
    flags := packFlags (BitVec.ofInt 8 r = 0) true
      (((a.toNat % 16 : Nat) : Int) - (b.toNat % 16 : Nat) - cin.toNat < 0) (r < 0) }

/-- A logic result with its flags: Z from the result, N and C clear, H as given (R220 to R225). -/
def logic8 (r : Byte) (h : Bool) : Flagged 8 :=
  { value := r, flags := packFlags (r = 0) false h false }

/-- The eight operations on A (R212 to R227); `f` is the flag byte before. `CP` is `SUB` whose
result the instruction drops. -/
def aluResult (op : AluOp) (a v f : Byte) : Flagged 8 :=
  match op with
  | .add => add8 a v false
  | .adc => add8 a v (flagC f)
  | .sub => sub8 a v false
  | .sbc => sub8 a v (flagC f)
  | .and => logic8 (a &&& v) true
  | .xor => logic8 (a ^^^ v) false
  | .or => logic8 (a ||| v) false
  | .cp => sub8 a v false

/-- `INC` of a byte: C is kept (R228, R229). -/
def inc8 (v f : Byte) : Flagged 8 :=
  { value := v + 1, flags := packFlags (v + 1 = 0) false (v &&& 0x0F = 0x0F) (flagC f) }

/-- `DEC` of a byte: C is kept (R230, R231). -/
def dec8 (v f : Byte) : Flagged 8 :=
  { value := v - 1, flags := packFlags (v - 1 = 0) true (v &&& 0x0F = 0) (flagC f) }

/-- `DAA` (R232): every test reads A and the flags from before. -/
def daa (a f : Byte) : Flagged 8 :=
  let low : Bool := flagH f || (!flagN f && (a &&& 0x0F).toNat > 0x09)
  let high : Bool := flagC f || (!flagN f && a.toNat > 0x99)
  let corr : Byte := (if low then 0x06 else 0) ||| (if high then 0x60 else 0)
  let r := if flagN f then a - corr else a + corr
  { value := r, flags := packFlags (r = 0) (flagN f) false high }

/-- `CPL` (R233): Z and C are kept. -/
def cpl (a f : Byte) : Flagged 8 :=
  { value := a ^^^ 0xFF, flags := packFlags (flagZ f) true true (flagC f) }

/-- The flags after `SCF` (R234). -/
def scfFlags (f : Byte) : Byte := packFlags (flagZ f) false false true

/-- The flags after `CCF` (R235). -/
def ccfFlags (f : Byte) : Byte := packFlags (flagZ f) false false (!flagC f)

/-! ### 16-bit arithmetic -/

/-- `sext_16(b)` (R11): a byte as a two's-complement number, widened. -/
def sext16 (b : Byte) : Word := b.signExtend 16

/-- `zext_16(b)` (R11). -/
def zext16 (b : Byte) : Word := b.zeroExtend 16

/-- `ADD HL,rr` (R250): Z is kept, H is the carry out of bit 11, C out of bit 15. -/
def addHl (hl v : Word) (f : Byte) : Flagged 16 :=
  { value := hl + v
    flags := packFlags (flagZ f) false (hl.toNat % 0x1000 + v.toNat % 0x1000 > 0x0FFF)
      (hl.toNat + v.toNat > 0xFFFF) }

/-- `SP + e8` (R193, R253): H and C are those of the unsigned sum of the low bytes. -/
def addSpOffset (sp : Word) (e : Byte) : Flagged 16 :=
  { value := sp + sext16 e
    flags := packFlags false false (sp.toNat % 0x10 + e.toNat % 0x10 > 0x0F)
      (sp.toNat % 0x100 + e.toNat > 0xFF) }

/-! ### Rotates, shifts, bit operations -/

/-- The result byte of a rotate or shift, given the carry before (R261 to R272). -/
def rotValue (op : RotOp) (v : Byte) (cin : Bool) : Byte :=
  match op with
  | .rlc => v.extractLsb' 0 7 ++ v.extractLsb' 7 1
  | .rrc => v.extractLsb' 0 1 ++ v.extractLsb' 1 7
  | .rl => v.extractLsb' 0 7 ++ BitVec.ofBool cin
  | .rr => BitVec.ofBool cin ++ v.extractLsb' 1 7
  | .sla => v.extractLsb' 0 7 ++ (0 : BitVec 1)
  | .sra => v.extractLsb' 7 1 ++ v.extractLsb' 1 7
  | .swap => v.extractLsb' 0 4 ++ v.extractLsb' 4 4
  | .srl => (0 : BitVec 1) ++ v.extractLsb' 1 7

/-- The bit a rotate or shift moves into C (R261 to R272); `SWAP` clears C. -/
def rotCarry (op : RotOp) (v : Byte) : Bool :=
  match op with
  | .rlc => v.getLsbD 7
  | .rrc => v.getLsbD 0
  | .rl => v.getLsbD 7
  | .rr => v.getLsbD 0
  | .sla => v.getLsbD 7
  | .sra => v.getLsbD 0
  | .swap => false
  | .srl => v.getLsbD 0

/-- A rotate, shift or swap behind the prefix: Z from the result (R265 to R272). -/
def rotResult (op : RotOp) (v f : Byte) : Flagged 8 :=
  let r := rotValue op v (flagC f)
  { value := r, flags := packFlags (r = 0) false false (rotCarry op v) }

/-- A one-byte rotate of A: Z is cleared whatever the result (R261 to R264). -/
def rotAResult (op : RotOp) (a f : Byte) : Flagged 8 :=
  { value := rotValue op a (flagC f), flags := packFlags false false false (rotCarry op a) }

/-- The flags after `BIT b`: Z is the complement of the bit, C is kept (R273). -/
def bitFlags (b : Nat) (v f : Byte) : Byte := packFlags (!v.getLsbD b) false true (flagC f)

/-- `v & ~(1 << b)` (R274). -/
def resBit (b : Nat) (v : Byte) : Byte := v &&& ~~~((1 : Byte) <<< b)

/-- `v | (1 << b)` (R275). -/
def setBit (b : Nat) (v : Byte) : Byte := v ||| ((1 : Byte) <<< b)

end Sys2Proof.Machine
end

