-- ==== Sys2Proof/Machine/Operands.lean ====
section
/-!
DEFINITION. The operand forms: register pairs as views of two bytes (R21), the tables `x[]`, `r16`
and `r16stk` as reads and writes (R124 to R126), and the conditions (R127).
-/

namespace Sys2Proof.Machine

/-! ### Register pairs (R21) -/

def State.bc (s : State) : Word := mkWord s.b s.c
def State.de (s : State) : Word := mkWord s.d s.e
def State.hl (s : State) : Word := mkWord s.h s.l
def State.af (s : State) : Word := mkWord s.a s.f

def State.setBc (s : State) (v : Word) : State := { s with b := hiByte v, c := loByte v }
def State.setDe (s : State) (v : Word) : State := { s with d := hiByte v, e := loByte v }
def State.setHl (s : State) (v : Word) : State := { s with h := hiByte v, l := loByte v }

/-- Writing AF writes F as given; the iteration clears its low nibble (R195, R360). -/
def State.setAf (s : State) (v : Word) : State := { s with a := hiByte v, f := loByte v }

/-- Table `r16` as a read (R125). -/
def State.reg16 (s : State) : Reg16 → Word
  | .bc => s.bc
  | .de => s.de
  | .hl => s.hl
  | .sp => s.sp

/-- Table `r16` as a write (R125). -/
def State.setReg16 (s : State) : Reg16 → Word → State
  | .bc, v => s.setBc v
  | .de, v => s.setDe v
  | .hl, v => s.setHl v
  | .sp, v => { s with sp := v }

/-- Table `r16stk` as a read (R126). -/
def State.reg16Stk (s : State) : Reg16Stk → Word
  | .bc => s.bc
  | .de => s.de
  | .hl => s.hl
  | .af => s.af

/-- Table `r16stk` as a write (R126). -/
def State.setReg16Stk (s : State) : Reg16Stk → Word → State
  | .bc, v => s.setBc v
  | .de, v => s.setDe v
  | .hl, v => s.setHl v
  | .af, v => s.setAf v

/-! ### Table `x[]` (R124) -/

/-- The operand's byte; field 6 is a bus read at HL. -/
def State.operand (s : State) : Operand8 → Byte
  | .b => s.b
  | .c => s.c
  | .d => s.d
  | .e => s.e
  | .h => s.h
  | .l => s.l
  | .indHl => s.busRead s.hl
  | .a => s.a

/-- What reading the operand leaves: only the bus read of field 6 can move a counter of the model's
free values (R66). -/
def State.touchOperand (s : State) : Operand8 → State
  | .indHl => s.busTouch s.hl
  | _ => s

/-- The operand written; field 6 is a bus write at HL. -/
def State.setOperand (s : State) : Operand8 → Byte → State
  | .b, v => { s with b := v }
  | .c, v => { s with c := v }
  | .d, v => { s with d := v }
  | .e, v => { s with e := v }
  | .h, v => { s with h := v }
  | .l, v => { s with l := v }
  | .indHl, v => s.busWrite s.hl v
  | .a, v => { s with a := v }

/-! ### Conditions -/

/-- `cond(cc)` (R127). -/
def State.cond (s : State) : Cond → Bool
  | .nz => !flagZ s.f
  | .z => flagZ s.f
  | .nc => !flagC s.f
  | .c => flagC s.f

end Sys2Proof.Machine
end

