-- ==== Sys2Proof/Machine/Ppu.lean ====
section
/-!
DEFINITION. The PPU: interrupt requests (R370), the mode machine (R430 to R436), and the
composition of the framebuffer (R424 to R426, R445 to R448). It reads the byte array directly.
-/

namespace Sys2Proof.Machine

/-- The address of the interrupt-enable register (R33). -/
def ieAddr : Nat := 0xFFFF

/-- `requestInterrupt(kind)`: the IF bit is set, nothing else (R370). -/
def State.requestInterrupt (s : State) (kind : Nat) : State :=
  s.poke s.cfg.ifAddr.toNat (s.peek s.cfg.ifAddr.toNat ||| BitVec.ofNat 8 (2 ^ kind))

/-! ### Pixels -/

/-- Shade of a colour index under a palette byte (R424). -/
def shade (palette : Byte) (idx : BitVec 2) : BitVec 2 :=
  (palette >>> (2 * idx.toNat)).extractLsb' 0 2

/-- The byte at an address computed in integers, modulo 2^16 (R10; DEDUCED, log entry 23: unsafe for
the framebuffer alone). -/
def vramByte (m : Memory) (n : Int) : Byte := Memory.read m (n % 65536).toNat

/-- `pixel(T, row, col)`: the colour index in a tile's row and column (R425). -/
def pixel (m : Memory) (tile row : Int) (col : Nat) : BitVec 2 :=
  let lo := vramByte m (tile + 2 * row)
  let hi := vramByte m (tile + 2 * row + 1)
  (hi >>> (7 - col)).extractLsb' 0 1 ++ (lo >>> (7 - col)).extractLsb' 0 1

/-- `tileAddr(t)` for background and window, by LCDC[4] (R422, R425). -/
def tileAddr (lcdc t : Byte) : Int :=
  if lcdc.getLsbD 4 then 0x8000 + 16 * (t.toNat : Int) else 0x9000 + 16 * t.toInt

/-- A tile-index map's base by its LCDC select bit (R422). -/
def mapBase (select : Bool) : Nat := if select then 0x9C00 else 0x9800

/-- The colour index at a point of a 256 by 256 map of tiles (R425, R445, R448). -/
def mapPixel (m : Memory) (lcdc : Byte) (base py px : Nat) : BitVec 2 :=
  let t := Memory.read m (base + 32 * (py / 8) + px / 8)
  pixel m (tileAddr lcdc t) (py % 8 : Nat) (px % 8)

/-! ### Background, sprites, window -/

/-- The background colour indices of a line (R445); all 0 when LCDC[0] is clear. -/
def bgLine (m : Memory) (ly : Nat) : List (BitVec 2) :=
  let lcdc := Memory.read m 0xFF40
  let base := mapBase (lcdc.getLsbD 3)
  let y := (ly + (Memory.read m 0xFF42).toNat) % 256
  let scx := (Memory.read m 0xFF43).toNat
  (List.range 160).map fun x =>
    if lcdc.getLsbD 0 then mapPixel m lcdc base y ((x + scx) % 256) else 0

/-- The shades of a background line (R445); all 0 when LCDC[0] is clear. -/
def bgShades (m : Memory) (idx : List (BitVec 2)) : List (BitVec 2) :=
  let bgp := Memory.read m 0xFF47
  idx.map fun i => if (Memory.read m 0xFF40).getLsbD 0 then shade bgp i else 0

/-- Sprite height by LCDC[2] (R422). -/
def spriteHeight (m : Memory) : Nat := if (Memory.read m 0xFF40).getLsbD 2 then 16 else 8

/-- Byte `k` of OAM entry `n`: Y, X, tile, attributes (R426). -/
def oamByte (m : Memory) (n k : Nat) : Byte := Memory.read m (0xFE00 + 4 * n + k)

/-- Does OAM entry `n` cover line `ly`, with its X in range (R446)? -/
def spriteOnLine (m : Memory) (ly n : Nat) : Bool :=
  let y := (oamByte m n 0).toNat
  y ≤ ly + 16 && ly + 16 < y + spriteHeight m && (oamByte m n 1).toNat ≤ 168

/-- An OAM index placed after every one whose X is not greater (R446). -/
def insertByX (m : Memory) (n : Nat) : List Nat → List Nat
  | [] => [n]
  | k :: ks =>
    if (oamByte m n 1).toNat < (oamByte m k 1).toNat then n :: k :: ks else k :: insertByX m n ks

/-- `scanOAM(ly)`: the first ten entries in OAM order that cover the line, by X, ties in OAM order
(R446). -/
def scanOam (m : Memory) (ly : Nat) : List Nat :=
  (((List.range 40).filter (spriteOnLine m ly)).take 10).foldl (fun acc n => insertByX m n acc) []

/-- The colour index sprite `n` shows at column `x` of line `ly`, 0 where it shows none (R447). -/
def spritePixel (m : Memory) (ly n x : Nat) : BitVec 2 :=
  let left := (oamByte m n 1).toNat
  if left ≤ x + 8 ∧ x + 8 < left + 8 then
    let attr := oamByte m n 3
    let h := spriteHeight m
    let row : Int := ly - ((oamByte m n 0).toNat - 16 : Int)
    let row : Int := if attr.getLsbD 6 then h - 1 - row else row
    let t := if h = 16 then oamByte m n 2 &&& 0xFE else oamByte m n 2
    let col := x + 8 - left
    pixel m (0x8000 + 16 * (t.toNat : Int)) row (if attr.getLsbD 5 then 7 - col else col)
  else 0

/-- One column of a line after the sprites: the first sprite, in the cache's order, that is opaque
there takes the column, and shows unless it is behind a background pixel (R447). -/
def spriteColumn (m : Memory) (ly : Nat) (sprites : List Nat) (x : Nat) (bg under : BitVec 2) :
    BitVec 2 :=
  match sprites.find? (fun n => spritePixel m ly n x != 0) with
  | none => under
  | some n =>
    let attr := oamByte m n 3
    if attr.getLsbD 7 && bg != 0 then under
    else shade (Memory.read m (if attr.getLsbD 4 then 0xFF49 else 0xFF48)) (spritePixel m ly n x)

/-- `renderLine(ly)` (R445, R447): the background line and its shades with the sprites over them. -/
def State.renderLine (s : State) : State :=
  let ly := s.ppu.line
  let idx := bgLine s.mem ly
  let under := bgShades s.mem idx
  let row :=
    if (Memory.read s.mem 0xFF40).getLsbD 1 then
      (List.range 160).map fun x =>
        spriteColumn s.mem ly s.ppu.sprites x (idx.getD x 0) (under.getD x 0)
    else under
  { s with ppu := { s.ppu with bgIdx := idx, fb := s.ppu.fb.set ly row } }

/-- One pixel of the frame under the window: the window's shade right of and below its corner,
what was there elsewhere (R448). -/
def windowPixel (m : Memory) (sy sx : Nat) (under : BitVec 2) : BitVec 2 :=
  let lcdc := Memory.read m 0xFF40
  let wy := (Memory.read m 0xFF4A).toNat
  let wx := (Memory.read m 0xFF4B).toNat
  if wy ≤ sy ∧ wx ≤ sx + 7 then
    shade (Memory.read m 0xFF47)
      (mapPixel m lcdc (mapBase (lcdc.getLsbD 6)) (sy - wy) (sx + 7 - wx))
  else under

/-- `drawWindow()` (R448). -/
def State.drawWindow (s : State) : State :=
  if (s.peek 0xFF40).getLsbD 5 then
    { s with ppu := { s.ppu with
        fb := s.ppu.fb.mapIdx fun sy row => row.mapIdx fun sx p => windowPixel s.mem sy sx p } }
  else s

/-- `scanOAM(line)` into the sprite cache (R446). -/
def State.scanLine (s : State) : State :=
  { s with ppu := { s.ppu with sprites := scanOam s.mem s.ppu.line } }

/-! ### The mode machine -/

/-- A mode's number in STAT[1:0] (R420, R423). -/
def PpuMode.code : PpuMode → Byte
  | .hblank => 0
  | .vblank => 1
  | .oamScan => 2
  | .transfer => 3

/-- Cycles a mode lasts, one line of it for V-blank (R431). -/
def PpuMode.duration : PpuMode → Nat
  | .hblank => 204
  | .vblank => 456
  | .oamScan => 80
  | .transfer => 172

/-- Does STAT ask for an interrupt on entering the mode (R423, R434)? -/
def statEnables (stat : Byte) : PpuMode → Bool
  | .hblank => stat.getLsbD 3
  | .vblank => stat.getLsbD 4
  | .oamScan => stat.getLsbD 5
  | .transfer => false

/-- `setMode(m)` (R432, R434). -/
def State.setMode (s : State) (m : PpuMode) : State :=
  let s := { s with ppu := { s.ppu with mode := m } }
  let s := s.poke 0xFF41 ((s.peek 0xFF41 &&& 0xFC) ||| m.code)
  let s := s.poke 0xFF44 (BitVec.ofNat 8 s.ppu.line)
  if statEnables (s.peek 0xFF41) m then s.requestInterrupt 1 else s

/-- `setLine(n)` (R432, R435). -/
def State.setLine (s : State) (n : Nat) : State :=
  let s := { s with ppu := { s.ppu with line := n } }
  let s := s.poke 0xFF44 (BitVec.ofNat 8 n)
  if n = (s.peek 0xFF45).toNat then
    let s := s.poke 0xFF41 (s.peek 0xFF41 ||| 0x04)
    if (s.peek 0xFF41).getLsbD 6 then s.requestInterrupt 1 else s
  else s.poke 0xFF41 (s.peek 0xFF41 &&& 0xFB)

/-- The cycles of the mode that has ended, taken off the counter (R430). -/
def State.endMode (s : State) : State :=
  { s with ppu := { s.ppu with modeClock := s.ppu.modeClock - s.ppu.mode.duration } }

/-- Entering line 144 (R430, R433): mode 1, the V-blank request, the window, and `update`'s answer. -/
def State.enterVblank (s : State) : State :=
  let s := (s.setMode .vblank).requestInterrupt 0
  { s.drawWindow with vblank := true }

/-- The transition out of the current mode (R430, R431). -/
def State.leaveMode (s : State) : State :=
  match s.ppu.mode with
  | .oamScan => s.endMode.scanLine.setMode .transfer
  | .transfer => s.endMode.renderLine.setMode .hblank
  | .hblank =>
    let s := s.endMode.setLine (s.ppu.line + 1)
    if s.ppu.line = 144 then s.enterVblank else s.setMode .oamScan
  | .vblank =>
    if s.ppu.line = 153 then (s.endMode.setLine 0).setMode .oamScan
    else s.endMode.setLine (s.ppu.line + 1)

/-- The loop of `PPU.update`: transitions as long as one is due. The first argument bounds their
number; each takes at least 80 cycles off the counter. -/
def State.ppuLoop : Nat → State → State
  | 0, s => s
  | n + 1, s =>
    if s.ppu.mode.duration ≤ s.ppu.modeClock then State.ppuLoop n s.leaveMode else s

/-- `PPU.update(delta)` (R430); the answer is left in `vblank`. With the LCD off nothing moves
(R436). -/
def State.ppuUpdate (s : State) (delta : Nat) : State :=
  let s := { s with vblank := false }
  if !(s.peek 0xFF40).getLsbD 7 then s
  else
    let s := { s with ppu := { s.ppu with modeClock := s.ppu.modeClock + delta } }
    State.ppuLoop (s.ppu.modeClock / 80 + 1) s

end Sys2Proof.Machine
end

