-- ==== Sys2Proof/Machine/Timers.lean ====
section
/-!
DEFINITION. The divider and the timer (R380 to R382), and the device update of an iteration (R365).
-/

namespace Sys2Proof.Machine

/-- The divider's part of `Timer.update(delta)` (R380, R382). -/
def State.dividerUpdate (s : State) (delta : Nat) : State :=
  let total := s.timer.divSub + delta
  let s := { s with timer := { s.timer with divSub := total % 256 } }
  s.poke 0xFF04 (s.peek 0xFF04 + BitVec.ofNat 8 (total / 256))

/-- The timer's period in cycles, by TAC[1:0] (R381). -/
def timerPeriod (tac : Byte) : Nat :=
  ([1024, 16, 64, 256] : List Nat).getD (tac.extractLsb' 0 2).toNat 1024

/-- One count of TIMA: up by one, or on overflow the reload from TMA and a request (R381, R382). -/
def State.timaTick (s : State) : State :=
  if s.peek 0xFF05 = 0xFF then (s.poke 0xFF05 (s.peek 0xFF06)).requestInterrupt 2
  else s.poke 0xFF05 (s.peek 0xFF05 + 1)

/-- The counter's part of `Timer.update(delta)`: held while TAC[2] is clear (R382). -/
def State.timaUpdate (s : State) (delta : Nat) : State :=
  let tac := s.peek 0xFF07
  if tac.getLsbD 2 then
    let total := s.timer.timaSub + delta
    let period := timerPeriod tac
    iterate State.timaTick (total / period)
      { s with timer := { s.timer with timaSub := total % period } }
  else s

/-- `Timer.update(delta)` (R382). -/
def State.timerUpdate (s : State) (delta : Nat) : State := (s.dividerUpdate delta).timaUpdate delta

/-- `FeedDevices(delta)` (R365): PPU, timer, APU. -/
def State.feedDevices (s : State) (delta : Nat) : State :=
  ((s.ppuUpdate delta).timerUpdate delta).apuUpdate delta

end Sys2Proof.Machine
end

