-- ==== Sys2Proof/Machine/Ops.lean ====
section
/-!
DEFINITION. The named operations the meanings are made of: cycles, control transfer (R23, R300),
the stack (R196, R197), the family operations, fetching a byte (R23, R99), raising a fatal fault
(R350), taking an interrupt (R362) and returning from one (R310), and the halted tick (R363).
-/

namespace Sys2Proof.Machine

/-- `cycles += n` (R11, R26). -/
def State.addCycles (s : State) (n : Nat) : State := { s with cycles := s.cycles + n }

/-- `CYCLES` of a row of the first table (R8, R551, R552). -/
def State.cost (s : State) (row : Byte) : Nat := s.cfg.cycles.getD row.toNat 0

/-- `CYCLES_TAKEN` of a row of the first table (R8, R551, R552). -/
def State.costTaken (s : State) (row : Byte) : Nat := s.cfg.cyclesTaken.getD row.toNat 0

/-- `CB_CYCLES` of a row of the second table (R8, R551, R552). -/
def State.costCb (s : State) (row : Byte) : Nat := s.cfg.cbCycles.getD row.toNat 0

/-! ### Fatal faults and stopping -/

/-- `raise Fatal(reason)`: `run <- stopped(reason)` and nothing else (R350). -/
def State.raise (s : State) (r : StopReason) : State := { s with run := .stopped r }

/-- Is the reason a fatal fault? `StopInstruction` is not one (R333, R351). -/
def StopReason.isFatal : StopReason → Bool
  | .unknownOpcode _ _ => true
  | .fetchOutOfRange _ => true
  | .pcOutOfRange => true
  | .stopInstruction => false

/-- Has a fatal fault been raised? -/
def State.faulted (s : State) : Bool :=
  match s.run with
  | .running => false
  | .stopped r => r.isFatal

/-! ### Control transfer -/

/-- PC loaded from an immediate, a register or the stack: the overflow mark is cleared (R23, R300). -/
def State.jumpTo (s : State) (target : Word) : State := { s with pc := target, pcOverflow := false }

/-- Is `PC + sext(e)`, in unbounded integers, outside 0..0xFFFF (R23, R304)? -/
def jumpLeavesRange (pc : Word) (e : Byte) : Bool :=
  let target : Int := (pc.toNat : Int) + e.toInt
  target < 0 || target > 0xFFFF

/-- The relative jump (R304, R305): PC modulo 2^16. Any jump clears the mark (D11); under the policy
`fault` a sum outside the range sets it (R23). -/
def State.jumpRel (s : State) (e : Byte) : State :=
  { s with
    pc := s.pc + sext16 e
    pcOverflow := s.cfg.pcOverflowPolicy = .fault && jumpLeavesRange s.pc e }

/-! ### The stack -/

/-- One byte pushed: SP down by one, then a bus write there. -/
def State.pushByte (s : State) (v : Byte) : State :=
  { s with sp := s.sp - 1 }.busWrite (s.sp - 1) v

/-- `push16(v)`: the high byte first, at the higher address (R196). -/
def State.push16 (s : State) (v : Word) : State := (s.pushByte (hiByte v)).pushByte (loByte v)

/-- A bus read at SP, SP up by one: what it leaves. -/
def State.popByte (s : State) : State := { s.busTouch s.sp with sp := s.sp + 1 }

/-- `pop16()`: the word (R197). -/
def State.popValue (s : State) : Word := mkWord (s.popByte.busRead s.popByte.sp) (s.busRead s.sp)

/-- `pop16()`: the state it leaves, SP up by two (R197). -/
def State.popped (s : State) : State := s.popByte.popByte

/-! ### The family operations -/

/-- `LD dst,src` between operands of table `x[]` (R160 to R162): the source is read first. -/
def State.load (s : State) (dst src : Operand8) : State :=
  (s.touchOperand src).setOperand dst (s.operand src)

/-- `A <- MemRead(a, 1)` (R165, R166, R169, R172, R174). -/
def State.loadA (s : State) (addr : Word) : State := { s.busTouch addr with a := s.busRead addr }

/-- The address `0xFF00 + n` (R172 to R175). -/
def highPage (n : Byte) : Word := 0xFF00 + zext16 n

/-- An operation on A with the operand's value (R212 to R227): A and the flags, or for `CP` the
flags alone. -/
def State.aluWith (s : State) (op : AluOp) (v : Byte) : State :=
  let r := aluResult op s.a v s.f
  { s with a := if op = .cp then s.a else r.value, f := r.flags }

/-- An operation on A with an operand of table `x[]` (R211). -/
def State.alu (s : State) (op : AluOp) (x : Operand8) : State :=
  (s.touchOperand x).aluWith op (s.operand x)

/-- An operand read, changed and written back, with the flags set from it (R228 to R231, R260). -/
def State.modify (s : State) (x : Operand8) (r : Flagged 8) : State :=
  { s.touchOperand x with f := r.flags }.setOperand x r.value

/-- `INC x` (R228, R229). -/
def State.inc (s : State) (x : Operand8) : State := s.modify x (inc8 (s.operand x) s.f)

/-- `DEC x` (R230, R231). -/
def State.dec (s : State) (x : Operand8) : State := s.modify x (dec8 (s.operand x) s.f)

/-- A rotate, shift or swap of an operand (R260, R265 to R272). -/
def State.rot (s : State) (op : RotOp) (x : Operand8) : State :=
  s.modify x (rotResult op (s.operand x) s.f)

/-- A one-byte rotate of A (R261 to R264). -/
def State.rotA (s : State) (op : RotOp) : State :=
  let r := rotAResult op s.a s.f
  { s with a := r.value, f := r.flags }

/-- `BIT b,x` (R273): the flags alone. -/
def State.bitTest (s : State) (b : Nat) (x : Operand8) : State :=
  { s.touchOperand x with f := bitFlags b (s.operand x) s.f }

/-- `RES b,x` (R274). -/
def State.resetBit (s : State) (b : Nat) (x : Operand8) : State :=
  (s.touchOperand x).setOperand x (resBit b (s.operand x))

/-- `SET b,x` (R275). -/
def State.assertBit (s : State) (b : Nat) (x : Operand8) : State :=
  (s.touchOperand x).setOperand x (setBit b (s.operand x))

/-- `ADD HL,rr` (R250). -/
def State.addToHl (s : State) (r : Reg16) : State :=
  let sum := addHl s.hl (s.reg16 r) s.f
  { s.setHl sum.value with f := sum.flags }

/-- `push16(PC); PC <- target` (R306, R311). -/
def State.call (s : State) (target : Word) : State := (s.push16 s.pc).jumpTo target

/-- `PC <- pop16()` (R308). -/
def State.ret (s : State) : State := s.popped.jumpTo s.popValue

/-- Return from an interrupt: `PC <- pop16(); IME <- 1`, at once (R310, R374). -/
def State.returnFromInterrupt (s : State) : State := { s.ret with ime := true }

/-- The execute part of the two-byte instruction of a row of the second table, by the row's fields
(R123, R260). -/
def State.cbExecute (s : State) (row : Byte) : State :=
  let y := (row.extractLsb' 3 3).toNat
  let x := operand8Of (row.extractLsb' 0 3).toNat
  (match (row.extractLsb' 6 2).toNat with
    | 0 => s.rot (rotOpOf y) x
    | 1 => s.bitTest y x
    | 2 => s.resetBit y x
    | _ => s.assertBit y x).addCycles (s.costCb row)

/-! ### Fetching -/

/-- The outcome of a fetch: a value and the state after it, or the state a fatal fault leaves. -/
inductive Fetched (α : Type) where
  | ok (v : α) (s : State)
  | fatal (s : State)

/-- PC after the byte at it has been fetched (R23): past 0xFFFF it is 0x0000, with the mark set
under the policy `fault`. -/
def State.advancePc (s : State) : State :=
  { s with
    pc := s.pc + 1
    pcOverflow := s.pcOverflow || (s.cfg.pcOverflowPolicy = .fault && s.pc = 0xFFFF) }

/-- `fetch8()` (R11, R23, R99): fatal when PC has already stepped past 0xFFFF, or when the address
maps past the end of the ROM image; otherwise the bus's byte, and PC moves on. -/
def State.fetch8 (s : State) : Fetched Byte :=
  if s.pcOverflow && s.cfg.pcOverflowPolicy = .fault then .fatal (s.raise .pcOutOfRange)
  else if s.pc.toNat < 0x8000 && !s.romInRange s.pc then .fatal (s.raise (.fetchOutOfRange s.pc))
  else .ok (s.busRead s.pc) (s.busTouch s.pc).advancePc

/-- The bytes of one instruction, fetched in ascending address order, and what they decode to in this
core (R8, R120, R136, R140; all before the execute part: DEDUCED, log entry 22: safe). -/
def State.fetchInstr (s : State) : Fetched Instr :=
  match s.fetch8 with
  | .fatal t => .fatal t
  | .ok op s1 =>
    if s.cfg.instrLength op = 1 then .ok (s.cfg.decode op 0 0) s1
    else
      match s1.fetch8 with
      | .fatal t => .fatal t
      | .ok b1 s2 =>
        if s.cfg.instrLength op = 2 then .ok (s.cfg.decode op b1 0) s2
        else
          match s2.fetch8 with
          | .fatal t => .fatal t
          | .ok b2 s3 => .ok (s.cfg.decode op b1 b2) s3

/-! ### Interrupts and the halted state -/

/-- `IF & IE & 0x1F` (R360, R361). -/
def State.pending (s : State) : Byte := s.peek s.cfg.ifAddr.toNat &&& s.peek ieAddr &&& 0x1F

/-- Is an interrupt taken at the top of this iteration (R361)? -/
def State.takesInterrupt (s : State) : Bool := s.ime && !s.pendingIE && s.pending != 0

/-- The least bit set in the pending byte: the lowest number wins (R362, R372). -/
def lowestPending (pend : Byte) : Nat :=
  if pend.getLsbD 0 then 0
  else if pend.getLsbD 1 then 1
  else if pend.getLsbD 2 then 2
  else if pend.getLsbD 3 then 3
  else 4

/-- The vector of interrupt `i` (R68, R362). -/
def vector (i : Nat) : Word := BitVec.ofNat 16 (0x40 + 8 * i)

/-- Taking interrupt `i` (R362): PC pushed, the IF bit cleared by a bus write, IME off, PC at the
vector, 20 cycles. -/
def State.takeInterrupt (s : State) (i : Nat) : State :=
  let s := { s with halted := false }.push16 s.pc
  let s := s.busWrite s.cfg.ifAddr
    (s.peek s.cfg.ifAddr.toNat &&& ~~~(BitVec.ofNat 8 (2 ^ i)))
  ({ s with ime := false }.jumpTo (vector i)).addCycles 20

/-- `Dispatch(pend)` (R362). -/
def State.dispatch (s : State) : State := s.takeInterrupt (lowestPending s.pending)

/-- `HaltedTick(pend)` (R363): four cycles; a pending request wakes the CPU, with PC backed up by
one when IME is off. The mark of R23 is left as it was (DEDUCED, log entry 10: safe). -/
def State.haltedTick (s : State) : State :=
  let t := s.addCycles 4
  if s.pending != 0 then
    { t with halted := false, wakePenalty := true, pc := if s.ime then s.pc else s.pc - 1 }
  else t

end Sys2Proof.Machine
end

