-- ==== Sys2Proof/Machine/Alu16.lean ====
section
/-!
DEFINITION. The meanings of the 16-bit arithmetic instructions (R250 to R253).
-/

namespace Sys2Proof.Machine

/-- `INC BC` (0x03), R251. -/
def execIncBc (s : State) : Host.Outcome State Fault Refusal :=
  .next ((s.setReg16 .bc (s.reg16 .bc + 1)).addCycles (s.cost 0x03))

/-- `ADD HL,BC` (0x09), R250. -/
def execAddHlBc (s : State) : Host.Outcome State Fault Refusal :=
  .next ((s.addToHl .bc).addCycles (s.cost 0x09))

/-- `DEC BC` (0x0B), R252. -/
def execDecBc (s : State) : Host.Outcome State Fault Refusal :=
  .next ((s.setReg16 .bc (s.reg16 .bc - 1)).addCycles (s.cost 0x0B))

/-- `INC DE` (0x13), R251. -/
def execIncDe (s : State) : Host.Outcome State Fault Refusal :=
  .next ((s.setReg16 .de (s.reg16 .de + 1)).addCycles (s.cost 0x13))

/-- `ADD HL,DE` (0x19), R250. -/
def execAddHlDe (s : State) : Host.Outcome State Fault Refusal :=
  .next ((s.addToHl .de).addCycles (s.cost 0x19))

/-- `DEC DE` (0x1B), R252. -/
def execDecDe (s : State) : Host.Outcome State Fault Refusal :=
  .next ((s.setReg16 .de (s.reg16 .de - 1)).addCycles (s.cost 0x1B))

/-- `INC HL` (0x23), R251. -/
def execIncHl (s : State) : Host.Outcome State Fault Refusal :=
  .next ((s.setReg16 .hl (s.reg16 .hl + 1)).addCycles (s.cost 0x23))

/-- `ADD HL,HL` (0x29), R250. -/
def execAddHlHl (s : State) : Host.Outcome State Fault Refusal :=
  .next ((s.addToHl .hl).addCycles (s.cost 0x29))

/-- `DEC HL` (0x2B), R252. -/
def execDecHl (s : State) : Host.Outcome State Fault Refusal :=
  .next ((s.setReg16 .hl (s.reg16 .hl - 1)).addCycles (s.cost 0x2B))

/-- `INC SP` (0x33), R251. -/
def execIncSp (s : State) : Host.Outcome State Fault Refusal :=
  .next ((s.setReg16 .sp (s.reg16 .sp + 1)).addCycles (s.cost 0x33))

/-- `ADD HL,SP` (0x39), R250. -/
def execAddHlSp (s : State) : Host.Outcome State Fault Refusal :=
  .next ((s.addToHl .sp).addCycles (s.cost 0x39))

/-- `DEC SP` (0x3B), R252. -/
def execDecSp (s : State) : Host.Outcome State Fault Refusal :=
  .next ((s.setReg16 .sp (s.reg16 .sp - 1)).addCycles (s.cost 0x3B))

/-- `ADD SP,e8` (0xE8), R253. -/
def execAddSpE8 (e8 : Byte) (s : State) : Host.Outcome State Fault Refusal :=
  let r := addSpOffset s.sp e8
  .next ({ s with sp := r.value, f := r.flags }.addCycles (s.cost 0xE8))

end Sys2Proof.Machine
end

