-- ==== Sys2Proof/Machine/Alu8.lean ====
section
/-!
DEFINITION. The meanings of the 8-bit arithmetic and logic instructions (R212 to R235).
-/

namespace Sys2Proof.Machine

/-- `INC B` (0x04), R228. -/
def execIncB (s : State) : Host.Outcome State Fault Refusal :=
  .next ((s.inc .b).addCycles (s.cost 0x04))

/-- `DEC B` (0x05), R230. -/
def execDecB (s : State) : Host.Outcome State Fault Refusal :=
  .next ((s.dec .b).addCycles (s.cost 0x05))

/-- `INC C` (0x0C), R228. -/
def execIncC (s : State) : Host.Outcome State Fault Refusal :=
  .next ((s.inc .c).addCycles (s.cost 0x0C))

/-- `DEC C` (0x0D), R230. -/
def execDecC (s : State) : Host.Outcome State Fault Refusal :=
  .next ((s.dec .c).addCycles (s.cost 0x0D))

/-- `INC D` (0x14), R228. -/
def execIncD (s : State) : Host.Outcome State Fault Refusal :=
  .next ((s.inc .d).addCycles (s.cost 0x14))

/-- `DEC D` (0x15), R230. -/
def execDecD (s : State) : Host.Outcome State Fault Refusal :=
  .next ((s.dec .d).addCycles (s.cost 0x15))

/-- `INC E` (0x1C), R228. -/
def execIncE (s : State) : Host.Outcome State Fault Refusal :=
  .next ((s.inc .e).addCycles (s.cost 0x1C))

/-- `DEC E` (0x1D), R230. -/
def execDecE (s : State) : Host.Outcome State Fault Refusal :=
  .next ((s.dec .e).addCycles (s.cost 0x1D))

/-- `INC H` (0x24), R228. -/
def execIncH (s : State) : Host.Outcome State Fault Refusal :=
  .next ((s.inc .h).addCycles (s.cost 0x24))

/-- `DEC H` (0x25), R230. -/
def execDecH (s : State) : Host.Outcome State Fault Refusal :=
  .next ((s.dec .h).addCycles (s.cost 0x25))

/-- `DAA` (0x27), R232. -/
def execDaa (s : State) : Host.Outcome State Fault Refusal :=
  let r := daa s.a s.f
  .next ({ s with a := r.value, f := r.flags }.addCycles (s.cost 0x27))

/-- `INC L` (0x2C), R228. -/
def execIncL (s : State) : Host.Outcome State Fault Refusal :=
  .next ((s.inc .l).addCycles (s.cost 0x2C))

/-- `DEC L` (0x2D), R230. -/
def execDecL (s : State) : Host.Outcome State Fault Refusal :=
  .next ((s.dec .l).addCycles (s.cost 0x2D))

/-- `CPL` (0x2F), R233. -/
def execCpl (s : State) : Host.Outcome State Fault Refusal :=
  let r := cpl s.a s.f
  .next ({ s with a := r.value, f := r.flags }.addCycles (s.cost 0x2F))

/-- `INC (HL)` (0x34), R229. -/
def execIncIndHl (s : State) : Host.Outcome State Fault Refusal :=
  .next ((s.inc .indHl).addCycles (s.cost 0x34))

/-- `DEC (HL)` (0x35), R231. -/
def execDecIndHl (s : State) : Host.Outcome State Fault Refusal :=
  .next ((s.dec .indHl).addCycles (s.cost 0x35))

/-- `SCF` (0x37), R234. -/
def execScf (s : State) : Host.Outcome State Fault Refusal :=
  .next ({ s with f := scfFlags s.f }.addCycles (s.cost 0x37))

/-- `INC A` (0x3C), R228. -/
def execIncA (s : State) : Host.Outcome State Fault Refusal :=
  .next ((s.inc .a).addCycles (s.cost 0x3C))

/-- `DEC A` (0x3D), R230. -/
def execDecA (s : State) : Host.Outcome State Fault Refusal :=
  .next ((s.dec .a).addCycles (s.cost 0x3D))

/-- `CCF` (0x3F), R235. -/
def execCcf (s : State) : Host.Outcome State Fault Refusal :=
  .next ({ s with f := ccfFlags s.f }.addCycles (s.cost 0x3F))

/-- `ADD A,B` (0x80), R212. -/
def execAddAB (s : State) : Host.Outcome State Fault Refusal :=
  .next ((s.alu .add .b).addCycles (s.cost 0x80))

/-- `ADD A,C` (0x81), R212. -/
def execAddAC (s : State) : Host.Outcome State Fault Refusal :=
  .next ((s.alu .add .c).addCycles (s.cost 0x81))

/-- `ADD A,D` (0x82), R212. -/
def execAddAD (s : State) : Host.Outcome State Fault Refusal :=
  .next ((s.alu .add .d).addCycles (s.cost 0x82))

/-- `ADD A,E` (0x83), R212. -/
def execAddAE (s : State) : Host.Outcome State Fault Refusal :=
  .next ((s.alu .add .e).addCycles (s.cost 0x83))

/-- `ADD A,H` (0x84), R212. -/
def execAddAH (s : State) : Host.Outcome State Fault Refusal :=
  .next ((s.alu .add .h).addCycles (s.cost 0x84))

/-- `ADD A,L` (0x85), R212. -/
def execAddAL (s : State) : Host.Outcome State Fault Refusal :=
  .next ((s.alu .add .l).addCycles (s.cost 0x85))

/-- `ADD A,(HL)` (0x86), R212. -/
def execAddAIndHl (s : State) : Host.Outcome State Fault Refusal :=
  .next ((s.alu .add .indHl).addCycles (s.cost 0x86))

/-- `ADD A,A` (0x87), R212. -/
def execAddAA (s : State) : Host.Outcome State Fault Refusal :=
  .next ((s.alu .add .a).addCycles (s.cost 0x87))

/-- `ADC A,B` (0x88), R214. -/
def execAdcAB (s : State) : Host.Outcome State Fault Refusal :=
  .next ((s.alu .adc .b).addCycles (s.cost 0x88))

/-- `ADC A,C` (0x89), R214. -/
def execAdcAC (s : State) : Host.Outcome State Fault Refusal :=
  .next ((s.alu .adc .c).addCycles (s.cost 0x89))

/-- `ADC A,D` (0x8A), R214. -/
def execAdcAD (s : State) : Host.Outcome State Fault Refusal :=
  .next ((s.alu .adc .d).addCycles (s.cost 0x8A))

/-- `ADC A,E` (0x8B), R214. -/
def execAdcAE (s : State) : Host.Outcome State Fault Refusal :=
  .next ((s.alu .adc .e).addCycles (s.cost 0x8B))

/-- `ADC A,H` (0x8C), R214. -/
def execAdcAH (s : State) : Host.Outcome State Fault Refusal :=
  .next ((s.alu .adc .h).addCycles (s.cost 0x8C))

/-- `ADC A,L` (0x8D), R214. -/
def execAdcAL (s : State) : Host.Outcome State Fault Refusal :=
  .next ((s.alu .adc .l).addCycles (s.cost 0x8D))

/-- `ADC A,(HL)` (0x8E), R214. -/
def execAdcAIndHl (s : State) : Host.Outcome State Fault Refusal :=
  .next ((s.alu .adc .indHl).addCycles (s.cost 0x8E))

/-- `ADC A,A` (0x8F), R214. -/
def execAdcAA (s : State) : Host.Outcome State Fault Refusal :=
  .next ((s.alu .adc .a).addCycles (s.cost 0x8F))

/-- `SUB B` (0x90), R216. -/
def execSubB (s : State) : Host.Outcome State Fault Refusal :=
  .next ((s.alu .sub .b).addCycles (s.cost 0x90))

/-- `SUB C` (0x91), R216. -/
def execSubC (s : State) : Host.Outcome State Fault Refusal :=
  .next ((s.alu .sub .c).addCycles (s.cost 0x91))

/-- `SUB D` (0x92), R216. -/
def execSubD (s : State) : Host.Outcome State Fault Refusal :=
  .next ((s.alu .sub .d).addCycles (s.cost 0x92))

/-- `SUB E` (0x93), R216. -/
def execSubE (s : State) : Host.Outcome State Fault Refusal :=
  .next ((s.alu .sub .e).addCycles (s.cost 0x93))

/-- `SUB H` (0x94), R216. -/
def execSubH (s : State) : Host.Outcome State Fault Refusal :=
  .next ((s.alu .sub .h).addCycles (s.cost 0x94))

/-- `SUB L` (0x95), R216. -/
def execSubL (s : State) : Host.Outcome State Fault Refusal :=
  .next ((s.alu .sub .l).addCycles (s.cost 0x95))

/-- `SUB (HL)` (0x96), R216. -/
def execSubIndHl (s : State) : Host.Outcome State Fault Refusal :=
  .next ((s.alu .sub .indHl).addCycles (s.cost 0x96))

/-- `SUB A` (0x97), R216. -/
def execSubA (s : State) : Host.Outcome State Fault Refusal :=
  .next ((s.alu .sub .a).addCycles (s.cost 0x97))

/-- `SBC A,B` (0x98), R218. -/
def execSbcAB (s : State) : Host.Outcome State Fault Refusal :=
  .next ((s.alu .sbc .b).addCycles (s.cost 0x98))

/-- `SBC A,C` (0x99), R218. -/
def execSbcAC (s : State) : Host.Outcome State Fault Refusal :=
  .next ((s.alu .sbc .c).addCycles (s.cost 0x99))

/-- `SBC A,D` (0x9A), R218. -/
def execSbcAD (s : State) : Host.Outcome State Fault Refusal :=
  .next ((s.alu .sbc .d).addCycles (s.cost 0x9A))

/-- `SBC A,E` (0x9B), R218. -/
def execSbcAE (s : State) : Host.Outcome State Fault Refusal :=
  .next ((s.alu .sbc .e).addCycles (s.cost 0x9B))

/-- `SBC A,H` (0x9C), R218. -/
def execSbcAH (s : State) : Host.Outcome State Fault Refusal :=
  .next ((s.alu .sbc .h).addCycles (s.cost 0x9C))

/-- `SBC A,L` (0x9D), R218. -/
def execSbcAL (s : State) : Host.Outcome State Fault Refusal :=
  .next ((s.alu .sbc .l).addCycles (s.cost 0x9D))

/-- `SBC A,(HL)` (0x9E), R218. -/
def execSbcAIndHl (s : State) : Host.Outcome State Fault Refusal :=
  .next ((s.alu .sbc .indHl).addCycles (s.cost 0x9E))

/-- `SBC A,A` (0x9F), R218. -/
def execSbcAA (s : State) : Host.Outcome State Fault Refusal :=
  .next ((s.alu .sbc .a).addCycles (s.cost 0x9F))

/-- `AND B` (0xA0), R220. -/
def execAndB (s : State) : Host.Outcome State Fault Refusal :=
  .next ((s.alu .and .b).addCycles (s.cost 0xA0))

/-- `AND C` (0xA1), R220. -/
def execAndC (s : State) : Host.Outcome State Fault Refusal :=
  .next ((s.alu .and .c).addCycles (s.cost 0xA1))

/-- `AND D` (0xA2), R220. -/
def execAndD (s : State) : Host.Outcome State Fault Refusal :=
  .next ((s.alu .and .d).addCycles (s.cost 0xA2))

/-- `AND E` (0xA3), R220. -/
def execAndE (s : State) : Host.Outcome State Fault Refusal :=
  .next ((s.alu .and .e).addCycles (s.cost 0xA3))

/-- `AND H` (0xA4), R220. -/
def execAndH (s : State) : Host.Outcome State Fault Refusal :=
  .next ((s.alu .and .h).addCycles (s.cost 0xA4))

/-- `AND L` (0xA5), R220. -/
def execAndL (s : State) : Host.Outcome State Fault Refusal :=
  .next ((s.alu .and .l).addCycles (s.cost 0xA5))

/-- `AND (HL)` (0xA6), R220. -/
def execAndIndHl (s : State) : Host.Outcome State Fault Refusal :=
  .next ((s.alu .and .indHl).addCycles (s.cost 0xA6))

/-- `AND A` (0xA7), R220. -/
def execAndA (s : State) : Host.Outcome State Fault Refusal :=
  .next ((s.alu .and .a).addCycles (s.cost 0xA7))

/-- `XOR B` (0xA8), R222. -/
def execXorB (s : State) : Host.Outcome State Fault Refusal :=
  .next ((s.alu .xor .b).addCycles (s.cost 0xA8))

/-- `XOR C` (0xA9), R222. -/
def execXorC (s : State) : Host.Outcome State Fault Refusal :=
  .next ((s.alu .xor .c).addCycles (s.cost 0xA9))

/-- `XOR D` (0xAA), R222. -/
def execXorD (s : State) : Host.Outcome State Fault Refusal :=
  .next ((s.alu .xor .d).addCycles (s.cost 0xAA))

/-- `XOR E` (0xAB), R222. -/
def execXorE (s : State) : Host.Outcome State Fault Refusal :=
  .next ((s.alu .xor .e).addCycles (s.cost 0xAB))

/-- `XOR H` (0xAC), R222. -/
def execXorH (s : State) : Host.Outcome State Fault Refusal :=
  .next ((s.alu .xor .h).addCycles (s.cost 0xAC))

/-- `XOR L` (0xAD), R222. -/
def execXorL (s : State) : Host.Outcome State Fault Refusal :=
  .next ((s.alu .xor .l).addCycles (s.cost 0xAD))

/-- `XOR (HL)` (0xAE), R222. -/
def execXorIndHl (s : State) : Host.Outcome State Fault Refusal :=
  .next ((s.alu .xor .indHl).addCycles (s.cost 0xAE))

/-- `XOR A` (0xAF), R222. -/
def execXorA (s : State) : Host.Outcome State Fault Refusal :=
  .next ((s.alu .xor .a).addCycles (s.cost 0xAF))

/-- `OR B` (0xB0), R224. -/
def execOrB (s : State) : Host.Outcome State Fault Refusal :=
  .next ((s.alu .or .b).addCycles (s.cost 0xB0))

/-- `OR C` (0xB1), R224. -/
def execOrC (s : State) : Host.Outcome State Fault Refusal :=
  .next ((s.alu .or .c).addCycles (s.cost 0xB1))

/-- `OR D` (0xB2), R224. -/
def execOrD (s : State) : Host.Outcome State Fault Refusal :=
  .next ((s.alu .or .d).addCycles (s.cost 0xB2))

/-- `OR E` (0xB3), R224. -/
def execOrE (s : State) : Host.Outcome State Fault Refusal :=
  .next ((s.alu .or .e).addCycles (s.cost 0xB3))

/-- `OR H` (0xB4), R224. -/
def execOrH (s : State) : Host.Outcome State Fault Refusal :=
  .next ((s.alu .or .h).addCycles (s.cost 0xB4))

/-- `OR L` (0xB5), R224. -/
def execOrL (s : State) : Host.Outcome State Fault Refusal :=
  .next ((s.alu .or .l).addCycles (s.cost 0xB5))

/-- `OR (HL)` (0xB6), R224. -/
def execOrIndHl (s : State) : Host.Outcome State Fault Refusal :=
  .next ((s.alu .or .indHl).addCycles (s.cost 0xB6))

/-- `OR A` (0xB7), R224. -/
def execOrA (s : State) : Host.Outcome State Fault Refusal :=
  .next ((s.alu .or .a).addCycles (s.cost 0xB7))

/-- `CP B` (0xB8), R226. -/
def execCpB (s : State) : Host.Outcome State Fault Refusal :=
  .next ((s.alu .cp .b).addCycles (s.cost 0xB8))

/-- `CP C` (0xB9), R226. -/
def execCpC (s : State) : Host.Outcome State Fault Refusal :=
  .next ((s.alu .cp .c).addCycles (s.cost 0xB9))

/-- `CP D` (0xBA), R226. -/
def execCpD (s : State) : Host.Outcome State Fault Refusal :=
  .next ((s.alu .cp .d).addCycles (s.cost 0xBA))

/-- `CP E` (0xBB), R226. -/
def execCpE (s : State) : Host.Outcome State Fault Refusal :=
  .next ((s.alu .cp .e).addCycles (s.cost 0xBB))

/-- `CP H` (0xBC), R226. -/
def execCpH (s : State) : Host.Outcome State Fault Refusal :=
  .next ((s.alu .cp .h).addCycles (s.cost 0xBC))

/-- `CP L` (0xBD), R226. -/
def execCpL (s : State) : Host.Outcome State Fault Refusal :=
  .next ((s.alu .cp .l).addCycles (s.cost 0xBD))

/-- `CP (HL)` (0xBE), R226. -/
def execCpIndHl (s : State) : Host.Outcome State Fault Refusal :=
  .next ((s.alu .cp .indHl).addCycles (s.cost 0xBE))

/-- `CP A` (0xBF), R226. -/
def execCpA (s : State) : Host.Outcome State Fault Refusal :=
  .next ((s.alu .cp .a).addCycles (s.cost 0xBF))

/-- `ADD A,d8` (0xC6), R213. -/
def execAddAD8 (d8 : Byte) (s : State) : Host.Outcome State Fault Refusal :=
  .next ((s.aluWith .add d8).addCycles (s.cost 0xC6))

/-- `ADC A,d8` (0xCE), R215. -/
def execAdcAD8 (d8 : Byte) (s : State) : Host.Outcome State Fault Refusal :=
  .next ((s.aluWith .adc d8).addCycles (s.cost 0xCE))

/-- `SUB d8` (0xD6), R217. -/
def execSubD8 (d8 : Byte) (s : State) : Host.Outcome State Fault Refusal :=
  .next ((s.aluWith .sub d8).addCycles (s.cost 0xD6))

/-- `SBC A,d8` (0xDE), R219. -/
def execSbcAD8 (d8 : Byte) (s : State) : Host.Outcome State Fault Refusal :=
  .next ((s.aluWith .sbc d8).addCycles (s.cost 0xDE))

/-- `AND d8` (0xE6), R221. -/
def execAndD8 (d8 : Byte) (s : State) : Host.Outcome State Fault Refusal :=
  .next ((s.aluWith .and d8).addCycles (s.cost 0xE6))

/-- `XOR d8` (0xEE), R223. -/
def execXorD8 (d8 : Byte) (s : State) : Host.Outcome State Fault Refusal :=
  .next ((s.aluWith .xor d8).addCycles (s.cost 0xEE))

/-- `OR d8` (0xF6), R225. -/
def execOrD8 (d8 : Byte) (s : State) : Host.Outcome State Fault Refusal :=
  .next ((s.aluWith .or d8).addCycles (s.cost 0xF6))

/-- `CP d8` (0xFE), R227. -/
def execCpD8 (d8 : Byte) (s : State) : Host.Outcome State Fault Refusal :=
  .next ((s.aluWith .cp d8).addCycles (s.cost 0xFE))

end Sys2Proof.Machine
end

