-- ==== Sys2Proof/Machine/Bits.lean ====
section
/-!
DEFINITION. The meanings of `BIT`, `RES` and `SET` (R273 to R275).
-/

namespace Sys2Proof.Machine

/-- `BIT 0,B` (0xCB 0x40), R273. -/
def execBit0B (s : State) : Host.Outcome State Fault Refusal :=
  .next ((s.bitTest 0 .b).addCycles (s.costCb 0x40))

/-- `BIT 0,C` (0xCB 0x41), R273. -/
def execBit0C (s : State) : Host.Outcome State Fault Refusal :=
  .next ((s.bitTest 0 .c).addCycles (s.costCb 0x41))

/-- `BIT 0,D` (0xCB 0x42), R273. -/
def execBit0D (s : State) : Host.Outcome State Fault Refusal :=
  .next ((s.bitTest 0 .d).addCycles (s.costCb 0x42))

/-- `BIT 0,E` (0xCB 0x43), R273. -/
def execBit0E (s : State) : Host.Outcome State Fault Refusal :=
  .next ((s.bitTest 0 .e).addCycles (s.costCb 0x43))

/-- `BIT 0,H` (0xCB 0x44), R273. -/
def execBit0H (s : State) : Host.Outcome State Fault Refusal :=
  .next ((s.bitTest 0 .h).addCycles (s.costCb 0x44))

/-- `BIT 0,L` (0xCB 0x45), R273. -/
def execBit0L (s : State) : Host.Outcome State Fault Refusal :=
  .next ((s.bitTest 0 .l).addCycles (s.costCb 0x45))

/-- `BIT 0,(HL)` (0xCB 0x46), R273. -/
def execBit0IndHl (s : State) : Host.Outcome State Fault Refusal :=
  .next ((s.bitTest 0 .indHl).addCycles (s.costCb 0x46))

/-- `BIT 0,A` (0xCB 0x47), R273. -/
def execBit0A (s : State) : Host.Outcome State Fault Refusal :=
  .next ((s.bitTest 0 .a).addCycles (s.costCb 0x47))

/-- `BIT 1,B` (0xCB 0x48), R273. -/
def execBit1B (s : State) : Host.Outcome State Fault Refusal :=
  .next ((s.bitTest 1 .b).addCycles (s.costCb 0x48))

/-- `BIT 1,C` (0xCB 0x49), R273. -/
def execBit1C (s : State) : Host.Outcome State Fault Refusal :=
  .next ((s.bitTest 1 .c).addCycles (s.costCb 0x49))

/-- `BIT 1,D` (0xCB 0x4A), R273. -/
def execBit1D (s : State) : Host.Outcome State Fault Refusal :=
  .next ((s.bitTest 1 .d).addCycles (s.costCb 0x4A))

/-- `BIT 1,E` (0xCB 0x4B), R273. -/
def execBit1E (s : State) : Host.Outcome State Fault Refusal :=
  .next ((s.bitTest 1 .e).addCycles (s.costCb 0x4B))

/-- `BIT 1,H` (0xCB 0x4C), R273. -/
def execBit1H (s : State) : Host.Outcome State Fault Refusal :=
  .next ((s.bitTest 1 .h).addCycles (s.costCb 0x4C))

/-- `BIT 1,L` (0xCB 0x4D), R273. -/
def execBit1L (s : State) : Host.Outcome State Fault Refusal :=
  .next ((s.bitTest 1 .l).addCycles (s.costCb 0x4D))

/-- `BIT 1,(HL)` (0xCB 0x4E), R273. -/
def execBit1IndHl (s : State) : Host.Outcome State Fault Refusal :=
  .next ((s.bitTest 1 .indHl).addCycles (s.costCb 0x4E))

/-- `BIT 1,A` (0xCB 0x4F), R273. -/
def execBit1A (s : State) : Host.Outcome State Fault Refusal :=
  .next ((s.bitTest 1 .a).addCycles (s.costCb 0x4F))

/-- `BIT 2,B` (0xCB 0x50), R273. -/
def execBit2B (s : State) : Host.Outcome State Fault Refusal :=
  .next ((s.bitTest 2 .b).addCycles (s.costCb 0x50))

/-- `BIT 2,C` (0xCB 0x51), R273. -/
def execBit2C (s : State) : Host.Outcome State Fault Refusal :=
  .next ((s.bitTest 2 .c).addCycles (s.costCb 0x51))

/-- `BIT 2,D` (0xCB 0x52), R273. -/
def execBit2D (s : State) : Host.Outcome State Fault Refusal :=
  .next ((s.bitTest 2 .d).addCycles (s.costCb 0x52))

/-- `BIT 2,E` (0xCB 0x53), R273. -/
def execBit2E (s : State) : Host.Outcome State Fault Refusal :=
  .next ((s.bitTest 2 .e).addCycles (s.costCb 0x53))

/-- `BIT 2,H` (0xCB 0x54), R273. -/
def execBit2H (s : State) : Host.Outcome State Fault Refusal :=
  .next ((s.bitTest 2 .h).addCycles (s.costCb 0x54))

/-- `BIT 2,L` (0xCB 0x55), R273. -/
def execBit2L (s : State) : Host.Outcome State Fault Refusal :=
  .next ((s.bitTest 2 .l).addCycles (s.costCb 0x55))

/-- `BIT 2,(HL)` (0xCB 0x56), R273. -/
def execBit2IndHl (s : State) : Host.Outcome State Fault Refusal :=
  .next ((s.bitTest 2 .indHl).addCycles (s.costCb 0x56))

/-- `BIT 2,A` (0xCB 0x57), R273. -/
def execBit2A (s : State) : Host.Outcome State Fault Refusal :=
  .next ((s.bitTest 2 .a).addCycles (s.costCb 0x57))

/-- `BIT 3,B` (0xCB 0x58), R273. -/
def execBit3B (s : State) : Host.Outcome State Fault Refusal :=
  .next ((s.bitTest 3 .b).addCycles (s.costCb 0x58))

/-- `BIT 3,C` (0xCB 0x59), R273. -/
def execBit3C (s : State) : Host.Outcome State Fault Refusal :=
  .next ((s.bitTest 3 .c).addCycles (s.costCb 0x59))

/-- `BIT 3,D` (0xCB 0x5A), R273. -/
def execBit3D (s : State) : Host.Outcome State Fault Refusal :=
  .next ((s.bitTest 3 .d).addCycles (s.costCb 0x5A))

/-- `BIT 3,E` (0xCB 0x5B), R273. -/
def execBit3E (s : State) : Host.Outcome State Fault Refusal :=
  .next ((s.bitTest 3 .e).addCycles (s.costCb 0x5B))

/-- `BIT 3,H` (0xCB 0x5C), R273. -/
def execBit3H (s : State) : Host.Outcome State Fault Refusal :=
  .next ((s.bitTest 3 .h).addCycles (s.costCb 0x5C))

/-- `BIT 3,L` (0xCB 0x5D), R273. -/
def execBit3L (s : State) : Host.Outcome State Fault Refusal :=
  .next ((s.bitTest 3 .l).addCycles (s.costCb 0x5D))

/-- `BIT 3,(HL)` (0xCB 0x5E), R273. -/
def execBit3IndHl (s : State) : Host.Outcome State Fault Refusal :=
  .next ((s.bitTest 3 .indHl).addCycles (s.costCb 0x5E))

/-- `BIT 3,A` (0xCB 0x5F), R273. -/
def execBit3A (s : State) : Host.Outcome State Fault Refusal :=
  .next ((s.bitTest 3 .a).addCycles (s.costCb 0x5F))

/-- `BIT 4,B` (0xCB 0x60), R273. -/
def execBit4B (s : State) : Host.Outcome State Fault Refusal :=
  .next ((s.bitTest 4 .b).addCycles (s.costCb 0x60))

/-- `BIT 4,C` (0xCB 0x61), R273. -/
def execBit4C (s : State) : Host.Outcome State Fault Refusal :=
  .next ((s.bitTest 4 .c).addCycles (s.costCb 0x61))

/-- `BIT 4,D` (0xCB 0x62), R273. -/
def execBit4D (s : State) : Host.Outcome State Fault Refusal :=
  .next ((s.bitTest 4 .d).addCycles (s.costCb 0x62))

/-- `BIT 4,E` (0xCB 0x63), R273. -/
def execBit4E (s : State) : Host.Outcome State Fault Refusal :=
  .next ((s.bitTest 4 .e).addCycles (s.costCb 0x63))

/-- `BIT 4,H` (0xCB 0x64), R273. -/
def execBit4H (s : State) : Host.Outcome State Fault Refusal :=
  .next ((s.bitTest 4 .h).addCycles (s.costCb 0x64))

/-- `BIT 4,L` (0xCB 0x65), R273. -/
def execBit4L (s : State) : Host.Outcome State Fault Refusal :=
  .next ((s.bitTest 4 .l).addCycles (s.costCb 0x65))

/-- `BIT 4,(HL)` (0xCB 0x66), R273. -/
def execBit4IndHl (s : State) : Host.Outcome State Fault Refusal :=
  .next ((s.bitTest 4 .indHl).addCycles (s.costCb 0x66))

/-- `BIT 4,A` (0xCB 0x67), R273. -/
def execBit4A (s : State) : Host.Outcome State Fault Refusal :=
  .next ((s.bitTest 4 .a).addCycles (s.costCb 0x67))

/-- `BIT 5,B` (0xCB 0x68), R273. -/
def execBit5B (s : State) : Host.Outcome State Fault Refusal :=
  .next ((s.bitTest 5 .b).addCycles (s.costCb 0x68))

/-- `BIT 5,C` (0xCB 0x69), R273. -/
def execBit5C (s : State) : Host.Outcome State Fault Refusal :=
  .next ((s.bitTest 5 .c).addCycles (s.costCb 0x69))

/-- `BIT 5,D` (0xCB 0x6A), R273. -/
def execBit5D (s : State) : Host.Outcome State Fault Refusal :=
  .next ((s.bitTest 5 .d).addCycles (s.costCb 0x6A))

/-- `BIT 5,E` (0xCB 0x6B), R273. -/
def execBit5E (s : State) : Host.Outcome State Fault Refusal :=
  .next ((s.bitTest 5 .e).addCycles (s.costCb 0x6B))

/-- `BIT 5,H` (0xCB 0x6C), R273. -/
def execBit5H (s : State) : Host.Outcome State Fault Refusal :=
  .next ((s.bitTest 5 .h).addCycles (s.costCb 0x6C))

/-- `BIT 5,L` (0xCB 0x6D), R273. -/
def execBit5L (s : State) : Host.Outcome State Fault Refusal :=
  .next ((s.bitTest 5 .l).addCycles (s.costCb 0x6D))

/-- `BIT 5,(HL)` (0xCB 0x6E), R273. -/
def execBit5IndHl (s : State) : Host.Outcome State Fault Refusal :=
  .next ((s.bitTest 5 .indHl).addCycles (s.costCb 0x6E))

/-- `BIT 5,A` (0xCB 0x6F), R273. -/
def execBit5A (s : State) : Host.Outcome State Fault Refusal :=
  .next ((s.bitTest 5 .a).addCycles (s.costCb 0x6F))

/-- `BIT 6,B` (0xCB 0x70), R273. -/
def execBit6B (s : State) : Host.Outcome State Fault Refusal :=
  .next ((s.bitTest 6 .b).addCycles (s.costCb 0x70))

/-- `BIT 6,C` (0xCB 0x71), R273. -/
def execBit6C (s : State) : Host.Outcome State Fault Refusal :=
  .next ((s.bitTest 6 .c).addCycles (s.costCb 0x71))

/-- `BIT 6,D` (0xCB 0x72), R273. -/
def execBit6D (s : State) : Host.Outcome State Fault Refusal :=
  .next ((s.bitTest 6 .d).addCycles (s.costCb 0x72))

/-- `BIT 6,E` (0xCB 0x73), R273. -/
def execBit6E (s : State) : Host.Outcome State Fault Refusal :=
  .next ((s.bitTest 6 .e).addCycles (s.costCb 0x73))

/-- `BIT 6,H` (0xCB 0x74), R273. -/
def execBit6H (s : State) : Host.Outcome State Fault Refusal :=
  .next ((s.bitTest 6 .h).addCycles (s.costCb 0x74))

/-- `BIT 6,L` (0xCB 0x75), R273. -/
def execBit6L (s : State) : Host.Outcome State Fault Refusal :=
  .next ((s.bitTest 6 .l).addCycles (s.costCb 0x75))

/-- `BIT 6,(HL)` (0xCB 0x76), R273. -/
def execBit6IndHl (s : State) : Host.Outcome State Fault Refusal :=
  .next ((s.bitTest 6 .indHl).addCycles (s.costCb 0x76))

/-- `BIT 6,A` (0xCB 0x77), R273. -/
def execBit6A (s : State) : Host.Outcome State Fault Refusal :=
  .next ((s.bitTest 6 .a).addCycles (s.costCb 0x77))

/-- `BIT 7,B` (0xCB 0x78), R273. -/
def execBit7B (s : State) : Host.Outcome State Fault Refusal :=
  .next ((s.bitTest 7 .b).addCycles (s.costCb 0x78))

/-- `BIT 7,C` (0xCB 0x79), R273. -/
def execBit7C (s : State) : Host.Outcome State Fault Refusal :=
  .next ((s.bitTest 7 .c).addCycles (s.costCb 0x79))

/-- `BIT 7,D` (0xCB 0x7A), R273. -/
def execBit7D (s : State) : Host.Outcome State Fault Refusal :=
  .next ((s.bitTest 7 .d).addCycles (s.costCb 0x7A))

/-- `BIT 7,E` (0xCB 0x7B), R273. -/
def execBit7E (s : State) : Host.Outcome State Fault Refusal :=
  .next ((s.bitTest 7 .e).addCycles (s.costCb 0x7B))

/-- `BIT 7,H` (0xCB 0x7C), R273. -/
def execBit7H (s : State) : Host.Outcome State Fault Refusal :=
  .next ((s.bitTest 7 .h).addCycles (s.costCb 0x7C))

/-- `BIT 7,L` (0xCB 0x7D), R273. -/
def execBit7L (s : State) : Host.Outcome State Fault Refusal :=
  .next ((s.bitTest 7 .l).addCycles (s.costCb 0x7D))

/-- `BIT 7,(HL)` (0xCB 0x7E), R273. -/
def execBit7IndHl (s : State) : Host.Outcome State Fault Refusal :=
  .next ((s.bitTest 7 .indHl).addCycles (s.costCb 0x7E))

/-- `BIT 7,A` (0xCB 0x7F), R273. -/
def execBit7A (s : State) : Host.Outcome State Fault Refusal :=
  .next ((s.bitTest 7 .a).addCycles (s.costCb 0x7F))

/-- `RES 0,B` (0xCB 0x80), R274. -/
def execRes0B (s : State) : Host.Outcome State Fault Refusal :=
  .next ((s.resetBit 0 .b).addCycles (s.costCb 0x80))

/-- `RES 0,C` (0xCB 0x81), R274. -/
def execRes0C (s : State) : Host.Outcome State Fault Refusal :=
  .next ((s.resetBit 0 .c).addCycles (s.costCb 0x81))

/-- `RES 0,D` (0xCB 0x82), R274. -/
def execRes0D (s : State) : Host.Outcome State Fault Refusal :=
  .next ((s.resetBit 0 .d).addCycles (s.costCb 0x82))

/-- `RES 0,E` (0xCB 0x83), R274. -/
def execRes0E (s : State) : Host.Outcome State Fault Refusal :=
  .next ((s.resetBit 0 .e).addCycles (s.costCb 0x83))

/-- `RES 0,H` (0xCB 0x84), R274. -/
def execRes0H (s : State) : Host.Outcome State Fault Refusal :=
  .next ((s.resetBit 0 .h).addCycles (s.costCb 0x84))

/-- `RES 0,L` (0xCB 0x85), R274. -/
def execRes0L (s : State) : Host.Outcome State Fault Refusal :=
  .next ((s.resetBit 0 .l).addCycles (s.costCb 0x85))

/-- `RES 0,(HL)` (0xCB 0x86), R274. -/
def execRes0IndHl (s : State) : Host.Outcome State Fault Refusal :=
  .next ((s.resetBit 0 .indHl).addCycles (s.costCb 0x86))

/-- `RES 0,A` (0xCB 0x87), R274. -/
def execRes0A (s : State) : Host.Outcome State Fault Refusal :=
  .next ((s.resetBit 0 .a).addCycles (s.costCb 0x87))

/-- `RES 1,B` (0xCB 0x88), R274. -/
def execRes1B (s : State) : Host.Outcome State Fault Refusal :=
  .next ((s.resetBit 1 .b).addCycles (s.costCb 0x88))

/-- `RES 1,C` (0xCB 0x89), R274. -/
def execRes1C (s : State) : Host.Outcome State Fault Refusal :=
  .next ((s.resetBit 1 .c).addCycles (s.costCb 0x89))

/-- `RES 1,D` (0xCB 0x8A), R274. -/
def execRes1D (s : State) : Host.Outcome State Fault Refusal :=
  .next ((s.resetBit 1 .d).addCycles (s.costCb 0x8A))

/-- `RES 1,E` (0xCB 0x8B), R274. -/
def execRes1E (s : State) : Host.Outcome State Fault Refusal :=
  .next ((s.resetBit 1 .e).addCycles (s.costCb 0x8B))

/-- `RES 1,H` (0xCB 0x8C), R274. -/
def execRes1H (s : State) : Host.Outcome State Fault Refusal :=
  .next ((s.resetBit 1 .h).addCycles (s.costCb 0x8C))

/-- `RES 1,L` (0xCB 0x8D), R274. -/
def execRes1L (s : State) : Host.Outcome State Fault Refusal :=
  .next ((s.resetBit 1 .l).addCycles (s.costCb 0x8D))

/-- `RES 1,(HL)` (0xCB 0x8E), R274. -/
def execRes1IndHl (s : State) : Host.Outcome State Fault Refusal :=
  .next ((s.resetBit 1 .indHl).addCycles (s.costCb 0x8E))

/-- `RES 1,A` (0xCB 0x8F), R274. -/
def execRes1A (s : State) : Host.Outcome State Fault Refusal :=
  .next ((s.resetBit 1 .a).addCycles (s.costCb 0x8F))

/-- `RES 2,B` (0xCB 0x90), R274. -/
def execRes2B (s : State) : Host.Outcome State Fault Refusal :=
  .next ((s.resetBit 2 .b).addCycles (s.costCb 0x90))

/-- `RES 2,C` (0xCB 0x91), R274. -/
def execRes2C (s : State) : Host.Outcome State Fault Refusal :=
  .next ((s.resetBit 2 .c).addCycles (s.costCb 0x91))

/-- `RES 2,D` (0xCB 0x92), R274. -/
def execRes2D (s : State) : Host.Outcome State Fault Refusal :=
  .next ((s.resetBit 2 .d).addCycles (s.costCb 0x92))

/-- `RES 2,E` (0xCB 0x93), R274. -/
def execRes2E (s : State) : Host.Outcome State Fault Refusal :=
  .next ((s.resetBit 2 .e).addCycles (s.costCb 0x93))

/-- `RES 2,H` (0xCB 0x94), R274. -/
def execRes2H (s : State) : Host.Outcome State Fault Refusal :=
  .next ((s.resetBit 2 .h).addCycles (s.costCb 0x94))

/-- `RES 2,L` (0xCB 0x95), R274. -/
def execRes2L (s : State) : Host.Outcome State Fault Refusal :=
  .next ((s.resetBit 2 .l).addCycles (s.costCb 0x95))

/-- `RES 2,(HL)` (0xCB 0x96), R274. -/
def execRes2IndHl (s : State) : Host.Outcome State Fault Refusal :=
  .next ((s.resetBit 2 .indHl).addCycles (s.costCb 0x96))

/-- `RES 2,A` (0xCB 0x97), R274. -/
def execRes2A (s : State) : Host.Outcome State Fault Refusal :=
  .next ((s.resetBit 2 .a).addCycles (s.costCb 0x97))

/-- `RES 3,B` (0xCB 0x98), R274. -/
def execRes3B (s : State) : Host.Outcome State Fault Refusal :=
  .next ((s.resetBit 3 .b).addCycles (s.costCb 0x98))

/-- `RES 3,C` (0xCB 0x99), R274. -/
def execRes3C (s : State) : Host.Outcome State Fault Refusal :=
  .next ((s.resetBit 3 .c).addCycles (s.costCb 0x99))

/-- `RES 3,D` (0xCB 0x9A), R274. -/
def execRes3D (s : State) : Host.Outcome State Fault Refusal :=
  .next ((s.resetBit 3 .d).addCycles (s.costCb 0x9A))

/-- `RES 3,E` (0xCB 0x9B), R274. -/
def execRes3E (s : State) : Host.Outcome State Fault Refusal :=
  .next ((s.resetBit 3 .e).addCycles (s.costCb 0x9B))

/-- `RES 3,H` (0xCB 0x9C), R274. -/
def execRes3H (s : State) : Host.Outcome State Fault Refusal :=
  .next ((s.resetBit 3 .h).addCycles (s.costCb 0x9C))

/-- `RES 3,L` (0xCB 0x9D), R274. -/
def execRes3L (s : State) : Host.Outcome State Fault Refusal :=
  .next ((s.resetBit 3 .l).addCycles (s.costCb 0x9D))

/-- `RES 3,(HL)` (0xCB 0x9E), R274. -/
def execRes3IndHl (s : State) : Host.Outcome State Fault Refusal :=
  .next ((s.resetBit 3 .indHl).addCycles (s.costCb 0x9E))

/-- `RES 3,A` (0xCB 0x9F), R274. -/
def execRes3A (s : State) : Host.Outcome State Fault Refusal :=
  .next ((s.resetBit 3 .a).addCycles (s.costCb 0x9F))

/-- `RES 4,B` (0xCB 0xA0), R274. -/
def execRes4B (s : State) : Host.Outcome State Fault Refusal :=
  .next ((s.resetBit 4 .b).addCycles (s.costCb 0xA0))

/-- `RES 4,C` (0xCB 0xA1), R274. -/
def execRes4C (s : State) : Host.Outcome State Fault Refusal :=
  .next ((s.resetBit 4 .c).addCycles (s.costCb 0xA1))

/-- `RES 4,D` (0xCB 0xA2), R274. -/
def execRes4D (s : State) : Host.Outcome State Fault Refusal :=
  .next ((s.resetBit 4 .d).addCycles (s.costCb 0xA2))

/-- `RES 4,E` (0xCB 0xA3), R274. -/
def execRes4E (s : State) : Host.Outcome State Fault Refusal :=
  .next ((s.resetBit 4 .e).addCycles (s.costCb 0xA3))

/-- `RES 4,H` (0xCB 0xA4), R274. -/
def execRes4H (s : State) : Host.Outcome State Fault Refusal :=
  .next ((s.resetBit 4 .h).addCycles (s.costCb 0xA4))

/-- `RES 4,L` (0xCB 0xA5), R274. -/
def execRes4L (s : State) : Host.Outcome State Fault Refusal :=
  .next ((s.resetBit 4 .l).addCycles (s.costCb 0xA5))

/-- `RES 4,(HL)` (0xCB 0xA6), R274. -/
def execRes4IndHl (s : State) : Host.Outcome State Fault Refusal :=
  .next ((s.resetBit 4 .indHl).addCycles (s.costCb 0xA6))

/-- `RES 4,A` (0xCB 0xA7), R274. -/
def execRes4A (s : State) : Host.Outcome State Fault Refusal :=
  .next ((s.resetBit 4 .a).addCycles (s.costCb 0xA7))

/-- `RES 5,B` (0xCB 0xA8), R274. -/
def execRes5B (s : State) : Host.Outcome State Fault Refusal :=
  .next ((s.resetBit 5 .b).addCycles (s.costCb 0xA8))

/-- `RES 5,C` (0xCB 0xA9), R274. -/
def execRes5C (s : State) : Host.Outcome State Fault Refusal :=
  .next ((s.resetBit 5 .c).addCycles (s.costCb 0xA9))

/-- `RES 5,D` (0xCB 0xAA), R274. -/
def execRes5D (s : State) : Host.Outcome State Fault Refusal :=
  .next ((s.resetBit 5 .d).addCycles (s.costCb 0xAA))

/-- `RES 5,E` (0xCB 0xAB), R274. -/
def execRes5E (s : State) : Host.Outcome State Fault Refusal :=
  .next ((s.resetBit 5 .e).addCycles (s.costCb 0xAB))

/-- `RES 5,H` (0xCB 0xAC), R274. -/
def execRes5H (s : State) : Host.Outcome State Fault Refusal :=
  .next ((s.resetBit 5 .h).addCycles (s.costCb 0xAC))

/-- `RES 5,L` (0xCB 0xAD), R274. -/
def execRes5L (s : State) : Host.Outcome State Fault Refusal :=
  .next ((s.resetBit 5 .l).addCycles (s.costCb 0xAD))

/-- `RES 5,(HL)` (0xCB 0xAE), R274. -/
def execRes5IndHl (s : State) : Host.Outcome State Fault Refusal :=
  .next ((s.resetBit 5 .indHl).addCycles (s.costCb 0xAE))

/-- `RES 5,A` (0xCB 0xAF), R274. -/
def execRes5A (s : State) : Host.Outcome State Fault Refusal :=
  .next ((s.resetBit 5 .a).addCycles (s.costCb 0xAF))

/-- `RES 6,B` (0xCB 0xB0), R274. -/
def execRes6B (s : State) : Host.Outcome State Fault Refusal :=
  .next ((s.resetBit 6 .b).addCycles (s.costCb 0xB0))

/-- `RES 6,C` (0xCB 0xB1), R274. -/
def execRes6C (s : State) : Host.Outcome State Fault Refusal :=
  .next ((s.resetBit 6 .c).addCycles (s.costCb 0xB1))

/-- `RES 6,D` (0xCB 0xB2), R274. -/
def execRes6D (s : State) : Host.Outcome State Fault Refusal :=
  .next ((s.resetBit 6 .d).addCycles (s.costCb 0xB2))

/-- `RES 6,E` (0xCB 0xB3), R274. -/
def execRes6E (s : State) : Host.Outcome State Fault Refusal :=
  .next ((s.resetBit 6 .e).addCycles (s.costCb 0xB3))

/-- `RES 6,H` (0xCB 0xB4), R274. -/
def execRes6H (s : State) : Host.Outcome State Fault Refusal :=
  .next ((s.resetBit 6 .h).addCycles (s.costCb 0xB4))

/-- `RES 6,L` (0xCB 0xB5), R274. -/
def execRes6L (s : State) : Host.Outcome State Fault Refusal :=
  .next ((s.resetBit 6 .l).addCycles (s.costCb 0xB5))

/-- `RES 6,(HL)` (0xCB 0xB6), R274. -/
def execRes6IndHl (s : State) : Host.Outcome State Fault Refusal :=
  .next ((s.resetBit 6 .indHl).addCycles (s.costCb 0xB6))

/-- `RES 6,A` (0xCB 0xB7), R274. -/
def execRes6A (s : State) : Host.Outcome State Fault Refusal :=
  .next ((s.resetBit 6 .a).addCycles (s.costCb 0xB7))

/-- `RES 7,B` (0xCB 0xB8), R274. -/
def execRes7B (s : State) : Host.Outcome State Fault Refusal :=
  .next ((s.resetBit 7 .b).addCycles (s.costCb 0xB8))

/-- `RES 7,C` (0xCB 0xB9), R274. -/
def execRes7C (s : State) : Host.Outcome State Fault Refusal :=
  .next ((s.resetBit 7 .c).addCycles (s.costCb 0xB9))

/-- `RES 7,D` (0xCB 0xBA), R274. -/
def execRes7D (s : State) : Host.Outcome State Fault Refusal :=
  .next ((s.resetBit 7 .d).addCycles (s.costCb 0xBA))

/-- `RES 7,E` (0xCB 0xBB), R274. -/
def execRes7E (s : State) : Host.Outcome State Fault Refusal :=
  .next ((s.resetBit 7 .e).addCycles (s.costCb 0xBB))

/-- `RES 7,H` (0xCB 0xBC), R274. -/
def execRes7H (s : State) : Host.Outcome State Fault Refusal :=
  .next ((s.resetBit 7 .h).addCycles (s.costCb 0xBC))

/-- `RES 7,L` (0xCB 0xBD), R274. -/
def execRes7L (s : State) : Host.Outcome State Fault Refusal :=
  .next ((s.resetBit 7 .l).addCycles (s.costCb 0xBD))

/-- `RES 7,(HL)` (0xCB 0xBE), R274. -/
def execRes7IndHl (s : State) : Host.Outcome State Fault Refusal :=
  .next ((s.resetBit 7 .indHl).addCycles (s.costCb 0xBE))

/-- `RES 7,A` (0xCB 0xBF), R274. -/
def execRes7A (s : State) : Host.Outcome State Fault Refusal :=
  .next ((s.resetBit 7 .a).addCycles (s.costCb 0xBF))

/-- `SET 0,B` (0xCB 0xC0), R275. -/
def execSet0B (s : State) : Host.Outcome State Fault Refusal :=
  .next ((s.assertBit 0 .b).addCycles (s.costCb 0xC0))

/-- `SET 0,C` (0xCB 0xC1), R275. -/
def execSet0C (s : State) : Host.Outcome State Fault Refusal :=
  .next ((s.assertBit 0 .c).addCycles (s.costCb 0xC1))

/-- `SET 0,D` (0xCB 0xC2), R275. -/
def execSet0D (s : State) : Host.Outcome State Fault Refusal :=
  .next ((s.assertBit 0 .d).addCycles (s.costCb 0xC2))

/-- `SET 0,E` (0xCB 0xC3), R275. -/
def execSet0E (s : State) : Host.Outcome State Fault Refusal :=
  .next ((s.assertBit 0 .e).addCycles (s.costCb 0xC3))

/-- `SET 0,H` (0xCB 0xC4), R275. -/
def execSet0H (s : State) : Host.Outcome State Fault Refusal :=
  .next ((s.assertBit 0 .h).addCycles (s.costCb 0xC4))

/-- `SET 0,L` (0xCB 0xC5), R275. -/
def execSet0L (s : State) : Host.Outcome State Fault Refusal :=
  .next ((s.assertBit 0 .l).addCycles (s.costCb 0xC5))

/-- `SET 0,(HL)` (0xCB 0xC6), R275. -/
def execSet0IndHl (s : State) : Host.Outcome State Fault Refusal :=
  .next ((s.assertBit 0 .indHl).addCycles (s.costCb 0xC6))

/-- `SET 0,A` (0xCB 0xC7), R275. -/
def execSet0A (s : State) : Host.Outcome State Fault Refusal :=
  .next ((s.assertBit 0 .a).addCycles (s.costCb 0xC7))

/-- `SET 1,B` (0xCB 0xC8), R275. -/
def execSet1B (s : State) : Host.Outcome State Fault Refusal :=
  .next ((s.assertBit 1 .b).addCycles (s.costCb 0xC8))

/-- `SET 1,C` (0xCB 0xC9), R275. -/
def execSet1C (s : State) : Host.Outcome State Fault Refusal :=
  .next ((s.assertBit 1 .c).addCycles (s.costCb 0xC9))

/-- `SET 1,D` (0xCB 0xCA), R275. -/
def execSet1D (s : State) : Host.Outcome State Fault Refusal :=
  .next ((s.assertBit 1 .d).addCycles (s.costCb 0xCA))

/-- `SET 1,E` (0xCB 0xCB), R275. -/
def execSet1E (s : State) : Host.Outcome State Fault Refusal :=
  .next ((s.assertBit 1 .e).addCycles (s.costCb 0xCB))

/-- `SET 1,H` (0xCB 0xCC), R275. -/
def execSet1H (s : State) : Host.Outcome State Fault Refusal :=
  .next ((s.assertBit 1 .h).addCycles (s.costCb 0xCC))

/-- `SET 1,L` (0xCB 0xCD), R275. -/
def execSet1L (s : State) : Host.Outcome State Fault Refusal :=
  .next ((s.assertBit 1 .l).addCycles (s.costCb 0xCD))

/-- `SET 1,(HL)` (0xCB 0xCE), R275. -/
def execSet1IndHl (s : State) : Host.Outcome State Fault Refusal :=
  .next ((s.assertBit 1 .indHl).addCycles (s.costCb 0xCE))

/-- `SET 1,A` (0xCB 0xCF), R275. -/
def execSet1A (s : State) : Host.Outcome State Fault Refusal :=
  .next ((s.assertBit 1 .a).addCycles (s.costCb 0xCF))

/-- `SET 2,B` (0xCB 0xD0), R275. -/
def execSet2B (s : State) : Host.Outcome State Fault Refusal :=
  .next ((s.assertBit 2 .b).addCycles (s.costCb 0xD0))

/-- `SET 2,C` (0xCB 0xD1), R275. -/
def execSet2C (s : State) : Host.Outcome State Fault Refusal :=
  .next ((s.assertBit 2 .c).addCycles (s.costCb 0xD1))

/-- `SET 2,D` (0xCB 0xD2), R275. -/
def execSet2D (s : State) : Host.Outcome State Fault Refusal :=
  .next ((s.assertBit 2 .d).addCycles (s.costCb 0xD2))

/-- `SET 2,E` (0xCB 0xD3), R275. -/
def execSet2E (s : State) : Host.Outcome State Fault Refusal :=
  .next ((s.assertBit 2 .e).addCycles (s.costCb 0xD3))

/-- `SET 2,H` (0xCB 0xD4), R275. -/
def execSet2H (s : State) : Host.Outcome State Fault Refusal :=
  .next ((s.assertBit 2 .h).addCycles (s.costCb 0xD4))

/-- `SET 2,L` (0xCB 0xD5), R275. -/
def execSet2L (s : State) : Host.Outcome State Fault Refusal :=
  .next ((s.assertBit 2 .l).addCycles (s.costCb 0xD5))

/-- `SET 2,(HL)` (0xCB 0xD6), R275. -/
def execSet2IndHl (s : State) : Host.Outcome State Fault Refusal :=
  .next ((s.assertBit 2 .indHl).addCycles (s.costCb 0xD6))

/-- `SET 2,A` (0xCB 0xD7), R275. -/
def execSet2A (s : State) : Host.Outcome State Fault Refusal :=
  .next ((s.assertBit 2 .a).addCycles (s.costCb 0xD7))

/-- `SET 3,B` (0xCB 0xD8), R275. -/
def execSet3B (s : State) : Host.Outcome State Fault Refusal :=
  .next ((s.assertBit 3 .b).addCycles (s.costCb 0xD8))

/-- `SET 3,C` (0xCB 0xD9), R275. -/
def execSet3C (s : State) : Host.Outcome State Fault Refusal :=
  .next ((s.assertBit 3 .c).addCycles (s.costCb 0xD9))

/-- `SET 3,D` (0xCB 0xDA), R275. -/
def execSet3D (s : State) : Host.Outcome State Fault Refusal :=
  .next ((s.assertBit 3 .d).addCycles (s.costCb 0xDA))

/-- `SET 3,E` (0xCB 0xDB), R275. -/
def execSet3E (s : State) : Host.Outcome State Fault Refusal :=
  .next ((s.assertBit 3 .e).addCycles (s.costCb 0xDB))

/-- `SET 3,H` (0xCB 0xDC), R275. -/
def execSet3H (s : State) : Host.Outcome State Fault Refusal :=
  .next ((s.assertBit 3 .h).addCycles (s.costCb 0xDC))

/-- `SET 3,L` (0xCB 0xDD), R275. -/
def execSet3L (s : State) : Host.Outcome State Fault Refusal :=
  .next ((s.assertBit 3 .l).addCycles (s.costCb 0xDD))

/-- `SET 3,(HL)` (0xCB 0xDE), R275. -/
def execSet3IndHl (s : State) : Host.Outcome State Fault Refusal :=
  .next ((s.assertBit 3 .indHl).addCycles (s.costCb 0xDE))

/-- `SET 3,A` (0xCB 0xDF), R275. -/
def execSet3A (s : State) : Host.Outcome State Fault Refusal :=
  .next ((s.assertBit 3 .a).addCycles (s.costCb 0xDF))

/-- `SET 4,B` (0xCB 0xE0), R275. -/
def execSet4B (s : State) : Host.Outcome State Fault Refusal :=
  .next ((s.assertBit 4 .b).addCycles (s.costCb 0xE0))

/-- `SET 4,C` (0xCB 0xE1), R275. -/
def execSet4C (s : State) : Host.Outcome State Fault Refusal :=
  .next ((s.assertBit 4 .c).addCycles (s.costCb 0xE1))

/-- `SET 4,D` (0xCB 0xE2), R275. -/
def execSet4D (s : State) : Host.Outcome State Fault Refusal :=
  .next ((s.assertBit 4 .d).addCycles (s.costCb 0xE2))

/-- `SET 4,E` (0xCB 0xE3), R275. -/
def execSet4E (s : State) : Host.Outcome State Fault Refusal :=
  .next ((s.assertBit 4 .e).addCycles (s.costCb 0xE3))

/-- `SET 4,H` (0xCB 0xE4), R275. -/
def execSet4H (s : State) : Host.Outcome State Fault Refusal :=
  .next ((s.assertBit 4 .h).addCycles (s.costCb 0xE4))

/-- `SET 4,L` (0xCB 0xE5), R275. -/
def execSet4L (s : State) : Host.Outcome State Fault Refusal :=
  .next ((s.assertBit 4 .l).addCycles (s.costCb 0xE5))

/-- `SET 4,(HL)` (0xCB 0xE6), R275. -/
def execSet4IndHl (s : State) : Host.Outcome State Fault Refusal :=
  .next ((s.assertBit 4 .indHl).addCycles (s.costCb 0xE6))

/-- `SET 4,A` (0xCB 0xE7), R275. -/
def execSet4A (s : State) : Host.Outcome State Fault Refusal :=
  .next ((s.assertBit 4 .a).addCycles (s.costCb 0xE7))

/-- `SET 5,B` (0xCB 0xE8), R275. -/
def execSet5B (s : State) : Host.Outcome State Fault Refusal :=
  .next ((s.assertBit 5 .b).addCycles (s.costCb 0xE8))

/-- `SET 5,C` (0xCB 0xE9), R275. -/
def execSet5C (s : State) : Host.Outcome State Fault Refusal :=
  .next ((s.assertBit 5 .c).addCycles (s.costCb 0xE9))

/-- `SET 5,D` (0xCB 0xEA), R275. -/
def execSet5D (s : State) : Host.Outcome State Fault Refusal :=
  .next ((s.assertBit 5 .d).addCycles (s.costCb 0xEA))

/-- `SET 5,E` (0xCB 0xEB), R275. -/
def execSet5E (s : State) : Host.Outcome State Fault Refusal :=
  .next ((s.assertBit 5 .e).addCycles (s.costCb 0xEB))

/-- `SET 5,H` (0xCB 0xEC), R275. -/
def execSet5H (s : State) : Host.Outcome State Fault Refusal :=
  .next ((s.assertBit 5 .h).addCycles (s.costCb 0xEC))

/-- `SET 5,L` (0xCB 0xED), R275. -/
def execSet5L (s : State) : Host.Outcome State Fault Refusal :=
  .next ((s.assertBit 5 .l).addCycles (s.costCb 0xED))

/-- `SET 5,(HL)` (0xCB 0xEE), R275. -/
def execSet5IndHl (s : State) : Host.Outcome State Fault Refusal :=
  .next ((s.assertBit 5 .indHl).addCycles (s.costCb 0xEE))

/-- `SET 5,A` (0xCB 0xEF), R275. -/
def execSet5A (s : State) : Host.Outcome State Fault Refusal :=
  .next ((s.assertBit 5 .a).addCycles (s.costCb 0xEF))

/-- `SET 6,B` (0xCB 0xF0), R275. -/
def execSet6B (s : State) : Host.Outcome State Fault Refusal :=
  .next ((s.assertBit 6 .b).addCycles (s.costCb 0xF0))

/-- `SET 6,C` (0xCB 0xF1), R275. -/
def execSet6C (s : State) : Host.Outcome State Fault Refusal :=
  .next ((s.assertBit 6 .c).addCycles (s.costCb 0xF1))

/-- `SET 6,D` (0xCB 0xF2), R275. -/
def execSet6D (s : State) : Host.Outcome State Fault Refusal :=
  .next ((s.assertBit 6 .d).addCycles (s.costCb 0xF2))

/-- `SET 6,E` (0xCB 0xF3), R275. -/
def execSet6E (s : State) : Host.Outcome State Fault Refusal :=
  .next ((s.assertBit 6 .e).addCycles (s.costCb 0xF3))

/-- `SET 6,H` (0xCB 0xF4), R275. -/
def execSet6H (s : State) : Host.Outcome State Fault Refusal :=
  .next ((s.assertBit 6 .h).addCycles (s.costCb 0xF4))

/-- `SET 6,L` (0xCB 0xF5), R275. -/
def execSet6L (s : State) : Host.Outcome State Fault Refusal :=
  .next ((s.assertBit 6 .l).addCycles (s.costCb 0xF5))

/-- `SET 6,(HL)` (0xCB 0xF6), R275. -/
def execSet6IndHl (s : State) : Host.Outcome State Fault Refusal :=
  .next ((s.assertBit 6 .indHl).addCycles (s.costCb 0xF6))

/-- `SET 6,A` (0xCB 0xF7), R275. -/
def execSet6A (s : State) : Host.Outcome State Fault Refusal :=
  .next ((s.assertBit 6 .a).addCycles (s.costCb 0xF7))

/-- `SET 7,B` (0xCB 0xF8), R275. -/
def execSet7B (s : State) : Host.Outcome State Fault Refusal :=
  .next ((s.assertBit 7 .b).addCycles (s.costCb 0xF8))

/-- `SET 7,C` (0xCB 0xF9), R275. -/
def execSet7C (s : State) : Host.Outcome State Fault Refusal :=
  .next ((s.assertBit 7 .c).addCycles (s.costCb 0xF9))

/-- `SET 7,D` (0xCB 0xFA), R275. -/
def execSet7D (s : State) : Host.Outcome State Fault Refusal :=
  .next ((s.assertBit 7 .d).addCycles (s.costCb 0xFA))

/-- `SET 7,E` (0xCB 0xFB), R275. -/
def execSet7E (s : State) : Host.Outcome State Fault Refusal :=
  .next ((s.assertBit 7 .e).addCycles (s.costCb 0xFB))

/-- `SET 7,H` (0xCB 0xFC), R275. -/
def execSet7H (s : State) : Host.Outcome State Fault Refusal :=
  .next ((s.assertBit 7 .h).addCycles (s.costCb 0xFC))

/-- `SET 7,L` (0xCB 0xFD), R275. -/
def execSet7L (s : State) : Host.Outcome State Fault Refusal :=
  .next ((s.assertBit 7 .l).addCycles (s.costCb 0xFD))

/-- `SET 7,(HL)` (0xCB 0xFE), R275. -/
def execSet7IndHl (s : State) : Host.Outcome State Fault Refusal :=
  .next ((s.assertBit 7 .indHl).addCycles (s.costCb 0xFE))

/-- `SET 7,A` (0xCB 0xFF), R275. -/
def execSet7A (s : State) : Host.Outcome State Fault Refusal :=
  .next ((s.assertBit 7 .a).addCycles (s.costCb 0xFF))

end Sys2Proof.Machine
end

