-- ==== Sys2Proof/Machine/Control.lean ====
section
/-!
DEFINITION. The meanings of the control transfers (R301 to R311).
-/

namespace Sys2Proof.Machine

/-- `JR e8` (0x18), R304. -/
def execJrE8 (e8 : Byte) (s : State) : Host.Outcome State Fault Refusal :=
  .next ((s.jumpRel e8).addCycles (s.cost 0x18))

/-- `JR NZ,e8` (0x20), R305. -/
def execJrNzE8 (e8 : Byte) (s : State) : Host.Outcome State Fault Refusal :=
  if s.cond .nz then .next ((s.jumpRel e8).addCycles (s.costTaken 0x20))
  else .next (s.addCycles (s.cost 0x20))

/-- `JR Z,e8` (0x28), R305. -/
def execJrZE8 (e8 : Byte) (s : State) : Host.Outcome State Fault Refusal :=
  if s.cond .z then .next ((s.jumpRel e8).addCycles (s.costTaken 0x28))
  else .next (s.addCycles (s.cost 0x28))

/-- `JR NC,e8` (0x30), R305. -/
def execJrNcE8 (e8 : Byte) (s : State) : Host.Outcome State Fault Refusal :=
  if s.cond .nc then .next ((s.jumpRel e8).addCycles (s.costTaken 0x30))
  else .next (s.addCycles (s.cost 0x30))

/-- `JR C,e8` (0x38), R305. -/
def execJrCE8 (e8 : Byte) (s : State) : Host.Outcome State Fault Refusal :=
  if s.cond .c then .next ((s.jumpRel e8).addCycles (s.costTaken 0x38))
  else .next (s.addCycles (s.cost 0x38))

/-- `RET NZ` (0xC0), R309. -/
def execRetNz (s : State) : Host.Outcome State Fault Refusal :=
  if s.cond .nz then .next (s.ret.addCycles (s.costTaken 0xC0))
  else .next (s.addCycles (s.cost 0xC0))

/-- `JP NZ,a16` (0xC2), R302. -/
def execJpNzA16 (a16 : Word) (s : State) : Host.Outcome State Fault Refusal :=
  if s.cond .nz then .next ((s.jumpTo a16).addCycles (s.costTaken 0xC2))
  else .next (s.addCycles (s.cost 0xC2))

/-- `JP a16` (0xC3), R301. -/
def execJpA16 (a16 : Word) (s : State) : Host.Outcome State Fault Refusal :=
  .next ((s.jumpTo a16).addCycles (s.cost 0xC3))

/-- `CALL NZ,a16` (0xC4), R307. -/
def execCallNzA16 (a16 : Word) (s : State) : Host.Outcome State Fault Refusal :=
  if s.cond .nz then .next ((s.call a16).addCycles (s.costTaken 0xC4))
  else .next (s.addCycles (s.cost 0xC4))

/-- `RST 0x00` (0xC7), R311. -/
def execRst00 (s : State) : Host.Outcome State Fault Refusal :=
  .next ((s.call 0x0000).addCycles (s.cost 0xC7))

/-- `RET Z` (0xC8), R309. -/
def execRetZ (s : State) : Host.Outcome State Fault Refusal :=
  if s.cond .z then .next (s.ret.addCycles (s.costTaken 0xC8))
  else .next (s.addCycles (s.cost 0xC8))

/-- `RET` (0xC9), R308. -/
def execRet (s : State) : Host.Outcome State Fault Refusal :=
  .next (s.ret.addCycles (s.cost 0xC9))

/-- `JP Z,a16` (0xCA), R302. -/
def execJpZA16 (a16 : Word) (s : State) : Host.Outcome State Fault Refusal :=
  if s.cond .z then .next ((s.jumpTo a16).addCycles (s.costTaken 0xCA))
  else .next (s.addCycles (s.cost 0xCA))

/-- `CALL Z,a16` (0xCC), R307. -/
def execCallZA16 (a16 : Word) (s : State) : Host.Outcome State Fault Refusal :=
  if s.cond .z then .next ((s.call a16).addCycles (s.costTaken 0xCC))
  else .next (s.addCycles (s.cost 0xCC))

/-- `CALL a16` (0xCD), R306. -/
def execCallA16 (a16 : Word) (s : State) : Host.Outcome State Fault Refusal :=
  .next ((s.call a16).addCycles (s.cost 0xCD))

/-- `RST 0x08` (0xCF), R311. -/
def execRst08 (s : State) : Host.Outcome State Fault Refusal :=
  .next ((s.call 0x0008).addCycles (s.cost 0xCF))

/-- `RET NC` (0xD0), R309. -/
def execRetNc (s : State) : Host.Outcome State Fault Refusal :=
  if s.cond .nc then .next (s.ret.addCycles (s.costTaken 0xD0))
  else .next (s.addCycles (s.cost 0xD0))

/-- `JP NC,a16` (0xD2), R302. -/
def execJpNcA16 (a16 : Word) (s : State) : Host.Outcome State Fault Refusal :=
  if s.cond .nc then .next ((s.jumpTo a16).addCycles (s.costTaken 0xD2))
  else .next (s.addCycles (s.cost 0xD2))

/-- `CALL NC,a16` (0xD4), R307. -/
def execCallNcA16 (a16 : Word) (s : State) : Host.Outcome State Fault Refusal :=
  if s.cond .nc then .next ((s.call a16).addCycles (s.costTaken 0xD4))
  else .next (s.addCycles (s.cost 0xD4))

/-- `RST 0x10` (0xD7), R311. -/
def execRst10 (s : State) : Host.Outcome State Fault Refusal :=
  .next ((s.call 0x0010).addCycles (s.cost 0xD7))

/-- `RET C` (0xD8), R309. -/
def execRetC (s : State) : Host.Outcome State Fault Refusal :=
  if s.cond .c then .next (s.ret.addCycles (s.costTaken 0xD8))
  else .next (s.addCycles (s.cost 0xD8))

/-- `RETI` (0xD9), R310. -/
def execReti (s : State) : Host.Outcome State Fault Refusal :=
  .next (s.returnFromInterrupt.addCycles (s.cost 0xD9))

/-- `JP C,a16` (0xDA), R302. -/
def execJpCA16 (a16 : Word) (s : State) : Host.Outcome State Fault Refusal :=
  if s.cond .c then .next ((s.jumpTo a16).addCycles (s.costTaken 0xDA))
  else .next (s.addCycles (s.cost 0xDA))

/-- `CALL C,a16` (0xDC), R307. -/
def execCallCA16 (a16 : Word) (s : State) : Host.Outcome State Fault Refusal :=
  if s.cond .c then .next ((s.call a16).addCycles (s.costTaken 0xDC))
  else .next (s.addCycles (s.cost 0xDC))

/-- `RST 0x18` (0xDF), R311. -/
def execRst18 (s : State) : Host.Outcome State Fault Refusal :=
  .next ((s.call 0x0018).addCycles (s.cost 0xDF))

/-- `RST 0x20` (0xE7), R311. -/
def execRst20 (s : State) : Host.Outcome State Fault Refusal :=
  .next ((s.call 0x0020).addCycles (s.cost 0xE7))

/-- `JP HL` (0xE9), R303. -/
def execJpHl (s : State) : Host.Outcome State Fault Refusal :=
  .next ((s.jumpTo s.hl).addCycles (s.cost 0xE9))

/-- `RST 0x28` (0xEF), R311. -/
def execRst28 (s : State) : Host.Outcome State Fault Refusal :=
  .next ((s.call 0x0028).addCycles (s.cost 0xEF))

/-- `RST 0x30` (0xF7), R311. -/
def execRst30 (s : State) : Host.Outcome State Fault Refusal :=
  .next ((s.call 0x0030).addCycles (s.cost 0xF7))

/-- `RST 0x38` (0xFF), R311. -/
def execRst38 (s : State) : Host.Outcome State Fault Refusal :=
  .next ((s.call 0x0038).addCycles (s.cost 0xFF))

end Sys2Proof.Machine
end

