-- ==== Sys2Proof/Machine/Load16.lean ====
section
/-!
DEFINITION. The meanings of the 16-bit loads, push and pop (R190 to R195).
-/

namespace Sys2Proof.Machine

/-- `LD BC,d16` (0x01), R190. -/
def execLdBcD16 (d16 : Word) (s : State) : Host.Outcome State Fault Refusal :=
  .next ((s.setReg16 .bc d16).addCycles (s.cost 0x01))

/-- `LD (a16),SP` (0x08), R191. -/
def execLdIndA16Sp (a16 : Word) (s : State) : Host.Outcome State Fault Refusal :=
  .next ((s.busWrite16 a16 s.sp).addCycles (s.cost 0x08))

/-- `LD DE,d16` (0x11), R190. -/
def execLdDeD16 (d16 : Word) (s : State) : Host.Outcome State Fault Refusal :=
  .next ((s.setReg16 .de d16).addCycles (s.cost 0x11))

/-- `LD HL,d16` (0x21), R190. -/
def execLdHlD16 (d16 : Word) (s : State) : Host.Outcome State Fault Refusal :=
  .next ((s.setReg16 .hl d16).addCycles (s.cost 0x21))

/-- `LD SP,d16` (0x31), R190. -/
def execLdSpD16 (d16 : Word) (s : State) : Host.Outcome State Fault Refusal :=
  .next ((s.setReg16 .sp d16).addCycles (s.cost 0x31))

/-- `POP BC` (0xC1), R195. -/
def execPopBc (s : State) : Host.Outcome State Fault Refusal :=
  .next ((s.popped.setReg16Stk .bc s.popValue).addCycles (s.cost 0xC1))

/-- `PUSH BC` (0xC5), R194. -/
def execPushBc (s : State) : Host.Outcome State Fault Refusal :=
  .next ((s.push16 (s.reg16Stk .bc)).addCycles (s.cost 0xC5))

/-- `POP DE` (0xD1), R195. -/
def execPopDe (s : State) : Host.Outcome State Fault Refusal :=
  .next ((s.popped.setReg16Stk .de s.popValue).addCycles (s.cost 0xD1))

/-- `PUSH DE` (0xD5), R194. -/
def execPushDe (s : State) : Host.Outcome State Fault Refusal :=
  .next ((s.push16 (s.reg16Stk .de)).addCycles (s.cost 0xD5))

/-- `POP HL` (0xE1), R195. -/
def execPopHl (s : State) : Host.Outcome State Fault Refusal :=
  .next ((s.popped.setReg16Stk .hl s.popValue).addCycles (s.cost 0xE1))

/-- `PUSH HL` (0xE5), R194. -/
def execPushHl (s : State) : Host.Outcome State Fault Refusal :=
  .next ((s.push16 (s.reg16Stk .hl)).addCycles (s.cost 0xE5))

/-- `POP AF` (0xF1), R195. -/
def execPopAf (s : State) : Host.Outcome State Fault Refusal :=
  .next ((s.popped.setReg16Stk .af s.popValue).addCycles (s.cost 0xF1))

/-- `PUSH AF` (0xF5), R194. -/
def execPushAf (s : State) : Host.Outcome State Fault Refusal :=
  .next ((s.push16 (s.reg16Stk .af)).addCycles (s.cost 0xF5))

/-- `LD HL,SP+e8` (0xF8), R193. -/
def execLdHlSpE8 (e8 : Byte) (s : State) : Host.Outcome State Fault Refusal :=
  let r := addSpOffset s.sp e8
  .next ({ s.setHl r.value with f := r.flags }.addCycles (s.cost 0xF8))

/-- `LD SP,HL` (0xF9), R192. -/
def execLdSpHl (s : State) : Host.Outcome State Fault Refusal :=
  .next ({ s with sp := s.hl }.addCycles (s.cost 0xF9))

end Sys2Proof.Machine
end

