-- ==== Sys2Proof/Machine/Load8.lean ====
section
/-!
DEFINITION. The meanings of the 8-bit loads and stores (R160 to R179).
-/

namespace Sys2Proof.Machine

/-- `LD (BC),A` (0x02), R167. -/
def execLdIndBcA (s : State) : Host.Outcome State Fault Refusal :=
  .next ((s.busWrite s.bc s.a).addCycles (s.cost 0x02))

/-- `LD B,d8` (0x06), R163. -/
def execLdBD8 (d8 : Byte) (s : State) : Host.Outcome State Fault Refusal :=
  .next ((s.setOperand .b d8).addCycles (s.cost 0x06))

/-- `LD A,(BC)` (0x0A), R165. -/
def execLdAIndBc (s : State) : Host.Outcome State Fault Refusal :=
  .next ((s.loadA s.bc).addCycles (s.cost 0x0A))

/-- `LD C,d8` (0x0E), R163. -/
def execLdCD8 (d8 : Byte) (s : State) : Host.Outcome State Fault Refusal :=
  .next ((s.setOperand .c d8).addCycles (s.cost 0x0E))

/-- `LD (DE),A` (0x12), R168. -/
def execLdIndDeA (s : State) : Host.Outcome State Fault Refusal :=
  .next ((s.busWrite s.de s.a).addCycles (s.cost 0x12))

/-- `LD D,d8` (0x16), R163. -/
def execLdDD8 (d8 : Byte) (s : State) : Host.Outcome State Fault Refusal :=
  .next ((s.setOperand .d d8).addCycles (s.cost 0x16))

/-- `LD A,(DE)` (0x1A), R166. -/
def execLdAIndDe (s : State) : Host.Outcome State Fault Refusal :=
  .next ((s.loadA s.de).addCycles (s.cost 0x1A))

/-- `LD E,d8` (0x1E), R163. -/
def execLdED8 (d8 : Byte) (s : State) : Host.Outcome State Fault Refusal :=
  .next ((s.setOperand .e d8).addCycles (s.cost 0x1E))

/-- `LD (HL+),A` (0x22), R176. -/
def execLdIndHlIncA (s : State) : Host.Outcome State Fault Refusal :=
  .next (((s.busWrite s.hl s.a).setHl (s.hl + 1)).addCycles (s.cost 0x22))

/-- `LD H,d8` (0x26), R163. -/
def execLdHD8 (d8 : Byte) (s : State) : Host.Outcome State Fault Refusal :=
  .next ((s.setOperand .h d8).addCycles (s.cost 0x26))

/-- `LD A,(HL+)` (0x2A), R177. -/
def execLdAIndHlInc (s : State) : Host.Outcome State Fault Refusal :=
  .next (((s.loadA s.hl).setHl (s.hl + 1)).addCycles (s.cost 0x2A))

/-- `LD L,d8` (0x2E), R163. -/
def execLdLD8 (d8 : Byte) (s : State) : Host.Outcome State Fault Refusal :=
  .next ((s.setOperand .l d8).addCycles (s.cost 0x2E))

/-- `LD (HL-),A` (0x32), R178. -/
def execLdIndHlDecA (s : State) : Host.Outcome State Fault Refusal :=
  .next (((s.busWrite s.hl s.a).setHl (s.hl - 1)).addCycles (s.cost 0x32))

/-- `LD (HL),d8` (0x36), R164. -/
def execLdIndHlD8 (d8 : Byte) (s : State) : Host.Outcome State Fault Refusal :=
  .next ((s.setOperand .indHl d8).addCycles (s.cost 0x36))

/-- `LD A,(HL-)` (0x3A), R179. -/
def execLdAIndHlDec (s : State) : Host.Outcome State Fault Refusal :=
  .next (((s.loadA s.hl).setHl (s.hl - 1)).addCycles (s.cost 0x3A))

/-- `LD A,d8` (0x3E), R163. -/
def execLdAD8 (d8 : Byte) (s : State) : Host.Outcome State Fault Refusal :=
  .next ((s.setOperand .a d8).addCycles (s.cost 0x3E))

/-- `LD B,B` (0x40), R160. -/
def execLdBB (s : State) : Host.Outcome State Fault Refusal :=
  .next ((s.load .b .b).addCycles (s.cost 0x40))

/-- `LD B,C` (0x41), R160. -/
def execLdBC (s : State) : Host.Outcome State Fault Refusal :=
  .next ((s.load .b .c).addCycles (s.cost 0x41))

/-- `LD B,D` (0x42), R160. -/
def execLdBD (s : State) : Host.Outcome State Fault Refusal :=
  .next ((s.load .b .d).addCycles (s.cost 0x42))

/-- `LD B,E` (0x43), R160. -/
def execLdBE (s : State) : Host.Outcome State Fault Refusal :=
  .next ((s.load .b .e).addCycles (s.cost 0x43))

/-- `LD B,H` (0x44), R160. -/
def execLdBH (s : State) : Host.Outcome State Fault Refusal :=
  .next ((s.load .b .h).addCycles (s.cost 0x44))

/-- `LD B,L` (0x45), R160. -/
def execLdBL (s : State) : Host.Outcome State Fault Refusal :=
  .next ((s.load .b .l).addCycles (s.cost 0x45))

/-- `LD B,(HL)` (0x46), R161. -/
def execLdBIndHl (s : State) : Host.Outcome State Fault Refusal :=
  .next ((s.load .b .indHl).addCycles (s.cost 0x46))

/-- `LD B,A` (0x47), R160. -/
def execLdBA (s : State) : Host.Outcome State Fault Refusal :=
  .next ((s.load .b .a).addCycles (s.cost 0x47))

/-- `LD C,B` (0x48), R160. -/
def execLdCB (s : State) : Host.Outcome State Fault Refusal :=
  .next ((s.load .c .b).addCycles (s.cost 0x48))

/-- `LD C,C` (0x49), R160. -/
def execLdCC (s : State) : Host.Outcome State Fault Refusal :=
  .next ((s.load .c .c).addCycles (s.cost 0x49))

/-- `LD C,D` (0x4A), R160. -/
def execLdCD (s : State) : Host.Outcome State Fault Refusal :=
  .next ((s.load .c .d).addCycles (s.cost 0x4A))

/-- `LD C,E` (0x4B), R160. -/
def execLdCE (s : State) : Host.Outcome State Fault Refusal :=
  .next ((s.load .c .e).addCycles (s.cost 0x4B))

/-- `LD C,H` (0x4C), R160. -/
def execLdCH (s : State) : Host.Outcome State Fault Refusal :=
  .next ((s.load .c .h).addCycles (s.cost 0x4C))

/-- `LD C,L` (0x4D), R160. -/
def execLdCL (s : State) : Host.Outcome State Fault Refusal :=
  .next ((s.load .c .l).addCycles (s.cost 0x4D))

/-- `LD C,(HL)` (0x4E), R161. -/
def execLdCIndHl (s : State) : Host.Outcome State Fault Refusal :=
  .next ((s.load .c .indHl).addCycles (s.cost 0x4E))

/-- `LD C,A` (0x4F), R160. -/
def execLdCA (s : State) : Host.Outcome State Fault Refusal :=
  .next ((s.load .c .a).addCycles (s.cost 0x4F))

/-- `LD D,B` (0x50), R160. -/
def execLdDB (s : State) : Host.Outcome State Fault Refusal :=
  .next ((s.load .d .b).addCycles (s.cost 0x50))

/-- `LD D,C` (0x51), R160. -/
def execLdDC (s : State) : Host.Outcome State Fault Refusal :=
  .next ((s.load .d .c).addCycles (s.cost 0x51))

/-- `LD D,D` (0x52), R160. -/
def execLdDD (s : State) : Host.Outcome State Fault Refusal :=
  .next ((s.load .d .d).addCycles (s.cost 0x52))

/-- `LD D,E` (0x53), R160. -/
def execLdDE (s : State) : Host.Outcome State Fault Refusal :=
  .next ((s.load .d .e).addCycles (s.cost 0x53))

/-- `LD D,H` (0x54), R160. -/
def execLdDH (s : State) : Host.Outcome State Fault Refusal :=
  .next ((s.load .d .h).addCycles (s.cost 0x54))

/-- `LD D,L` (0x55), R160. -/
def execLdDL (s : State) : Host.Outcome State Fault Refusal :=
  .next ((s.load .d .l).addCycles (s.cost 0x55))

/-- `LD D,(HL)` (0x56), R161. -/
def execLdDIndHl (s : State) : Host.Outcome State Fault Refusal :=
  .next ((s.load .d .indHl).addCycles (s.cost 0x56))

/-- `LD D,A` (0x57), R160. -/
def execLdDA (s : State) : Host.Outcome State Fault Refusal :=
  .next ((s.load .d .a).addCycles (s.cost 0x57))

/-- `LD E,B` (0x58), R160. -/
def execLdEB (s : State) : Host.Outcome State Fault Refusal :=
  .next ((s.load .e .b).addCycles (s.cost 0x58))

/-- `LD E,C` (0x59), R160. -/
def execLdEC (s : State) : Host.Outcome State Fault Refusal :=
  .next ((s.load .e .c).addCycles (s.cost 0x59))

/-- `LD E,D` (0x5A), R160. -/
def execLdED (s : State) : Host.Outcome State Fault Refusal :=
  .next ((s.load .e .d).addCycles (s.cost 0x5A))

/-- `LD E,E` (0x5B), R160. -/
def execLdEE (s : State) : Host.Outcome State Fault Refusal :=
  .next ((s.load .e .e).addCycles (s.cost 0x5B))

/-- `LD E,H` (0x5C), R160. -/
def execLdEH (s : State) : Host.Outcome State Fault Refusal :=
  .next ((s.load .e .h).addCycles (s.cost 0x5C))

/-- `LD E,L` (0x5D), R160. -/
def execLdEL (s : State) : Host.Outcome State Fault Refusal :=
  .next ((s.load .e .l).addCycles (s.cost 0x5D))

/-- `LD E,(HL)` (0x5E), R161. -/
def execLdEIndHl (s : State) : Host.Outcome State Fault Refusal :=
  .next ((s.load .e .indHl).addCycles (s.cost 0x5E))

/-- `LD E,A` (0x5F), R160. -/
def execLdEA (s : State) : Host.Outcome State Fault Refusal :=
  .next ((s.load .e .a).addCycles (s.cost 0x5F))

/-- `LD H,B` (0x60), R160. -/
def execLdHB (s : State) : Host.Outcome State Fault Refusal :=
  .next ((s.load .h .b).addCycles (s.cost 0x60))

/-- `LD H,C` (0x61), R160. -/
def execLdHC (s : State) : Host.Outcome State Fault Refusal :=
  .next ((s.load .h .c).addCycles (s.cost 0x61))

/-- `LD H,D` (0x62), R160. -/
def execLdHD (s : State) : Host.Outcome State Fault Refusal :=
  .next ((s.load .h .d).addCycles (s.cost 0x62))

/-- `LD H,E` (0x63), R160. -/
def execLdHE (s : State) : Host.Outcome State Fault Refusal :=
  .next ((s.load .h .e).addCycles (s.cost 0x63))

/-- `LD H,H` (0x64), R160. -/
def execLdHH (s : State) : Host.Outcome State Fault Refusal :=
  .next ((s.load .h .h).addCycles (s.cost 0x64))

/-- `LD H,L` (0x65), R160. -/
def execLdHL (s : State) : Host.Outcome State Fault Refusal :=
  .next ((s.load .h .l).addCycles (s.cost 0x65))

/-- `LD H,(HL)` (0x66), R161. -/
def execLdHIndHl (s : State) : Host.Outcome State Fault Refusal :=
  .next ((s.load .h .indHl).addCycles (s.cost 0x66))

/-- `LD H,A` (0x67), R160. -/
def execLdHA (s : State) : Host.Outcome State Fault Refusal :=
  .next ((s.load .h .a).addCycles (s.cost 0x67))

/-- `LD L,B` (0x68), R160. -/
def execLdLB (s : State) : Host.Outcome State Fault Refusal :=
  .next ((s.load .l .b).addCycles (s.cost 0x68))

/-- `LD L,C` (0x69), R160. -/
def execLdLC (s : State) : Host.Outcome State Fault Refusal :=
  .next ((s.load .l .c).addCycles (s.cost 0x69))

/-- `LD L,D` (0x6A), R160. -/
def execLdLD (s : State) : Host.Outcome State Fault Refusal :=
  .next ((s.load .l .d).addCycles (s.cost 0x6A))

/-- `LD L,E` (0x6B), R160. -/
def execLdLE (s : State) : Host.Outcome State Fault Refusal :=
  .next ((s.load .l .e).addCycles (s.cost 0x6B))

/-- `LD L,H` (0x6C), R160. -/
def execLdLH (s : State) : Host.Outcome State Fault Refusal :=
  .next ((s.load .l .h).addCycles (s.cost 0x6C))

/-- `LD L,L` (0x6D), R160. -/
def execLdLL (s : State) : Host.Outcome State Fault Refusal :=
  .next ((s.load .l .l).addCycles (s.cost 0x6D))

/-- `LD L,(HL)` (0x6E), R161. -/
def execLdLIndHl (s : State) : Host.Outcome State Fault Refusal :=
  .next ((s.load .l .indHl).addCycles (s.cost 0x6E))

/-- `LD L,A` (0x6F), R160. -/
def execLdLA (s : State) : Host.Outcome State Fault Refusal :=
  .next ((s.load .l .a).addCycles (s.cost 0x6F))

/-- `LD (HL),B` (0x70), R162. -/
def execLdIndHlB (s : State) : Host.Outcome State Fault Refusal :=
  .next ((s.load .indHl .b).addCycles (s.cost 0x70))

/-- `LD (HL),C` (0x71), R162. -/
def execLdIndHlC (s : State) : Host.Outcome State Fault Refusal :=
  .next ((s.load .indHl .c).addCycles (s.cost 0x71))

/-- `LD (HL),D` (0x72), R162. -/
def execLdIndHlD (s : State) : Host.Outcome State Fault Refusal :=
  .next ((s.load .indHl .d).addCycles (s.cost 0x72))

/-- `LD (HL),E` (0x73), R162. -/
def execLdIndHlE (s : State) : Host.Outcome State Fault Refusal :=
  .next ((s.load .indHl .e).addCycles (s.cost 0x73))

/-- `LD (HL),H` (0x74), R162. -/
def execLdIndHlH (s : State) : Host.Outcome State Fault Refusal :=
  .next ((s.load .indHl .h).addCycles (s.cost 0x74))

/-- `LD (HL),L` (0x75), R162. -/
def execLdIndHlL (s : State) : Host.Outcome State Fault Refusal :=
  .next ((s.load .indHl .l).addCycles (s.cost 0x75))

/-- `LD (HL),A` (0x77), R162. -/
def execLdIndHlA (s : State) : Host.Outcome State Fault Refusal :=
  .next ((s.load .indHl .a).addCycles (s.cost 0x77))

/-- `LD A,B` (0x78), R160. -/
def execLdAB (s : State) : Host.Outcome State Fault Refusal :=
  .next ((s.load .a .b).addCycles (s.cost 0x78))

/-- `LD A,C` (0x79), R160. -/
def execLdAC (s : State) : Host.Outcome State Fault Refusal :=
  .next ((s.load .a .c).addCycles (s.cost 0x79))

/-- `LD A,D` (0x7A), R160. -/
def execLdAD (s : State) : Host.Outcome State Fault Refusal :=
  .next ((s.load .a .d).addCycles (s.cost 0x7A))

/-- `LD A,E` (0x7B), R160. -/
def execLdAE (s : State) : Host.Outcome State Fault Refusal :=
  .next ((s.load .a .e).addCycles (s.cost 0x7B))

/-- `LD A,H` (0x7C), R160. -/
def execLdAH (s : State) : Host.Outcome State Fault Refusal :=
  .next ((s.load .a .h).addCycles (s.cost 0x7C))

/-- `LD A,L` (0x7D), R160. -/
def execLdAL (s : State) : Host.Outcome State Fault Refusal :=
  .next ((s.load .a .l).addCycles (s.cost 0x7D))

/-- `LD A,(HL)` (0x7E), R161. -/
def execLdAIndHl (s : State) : Host.Outcome State Fault Refusal :=
  .next ((s.load .a .indHl).addCycles (s.cost 0x7E))

/-- `LD A,A` (0x7F), R160. -/
def execLdAA (s : State) : Host.Outcome State Fault Refusal :=
  .next ((s.load .a .a).addCycles (s.cost 0x7F))

/-- `LDH (a8),A` (0xE0), R173. -/
def execLdhIndA8A (a8 : Byte) (s : State) : Host.Outcome State Fault Refusal :=
  .next ((s.busWrite (highPage a8) s.a).addCycles (s.cost 0xE0))

/-- `LD (C),A` (0xE2), R175. -/
def execLdIndCA (s : State) : Host.Outcome State Fault Refusal :=
  .next ((s.busWrite (highPage s.c) s.a).addCycles (s.cost 0xE2))

/-- `LD (a16),A` (0xEA), R170. -/
def execLdIndA16A (a16 : Word) (s : State) : Host.Outcome State Fault Refusal :=
  .next ((s.busWrite a16 s.a).addCycles (s.cost 0xEA))

/-- `LDH A,(a8)` (0xF0), R172. -/
def execLdhAIndA8 (a8 : Byte) (s : State) : Host.Outcome State Fault Refusal :=
  .next ((s.loadA (highPage a8)).addCycles (s.cost 0xF0))

/-- `LD A,(C)` (0xF2), R174. -/
def execLdAIndC (s : State) : Host.Outcome State Fault Refusal :=
  .next ((s.loadA (highPage s.c)).addCycles (s.cost 0xF2))

/-- `LD A,(a16)` (0xFA), R169. -/
def execLdAIndA16 (a16 : Word) (s : State) : Host.Outcome State Fault Refusal :=
  .next ((s.loadA a16).addCycles (s.cost 0xFA))

end Sys2Proof.Machine
end

