-- ==== Sys2Proof/Machine/Rotate.lean ====
section
/-!
DEFINITION. The meanings of the rotates, shifts and swaps (R261 to R272).
-/

namespace Sys2Proof.Machine

/-- `RLCA` (0x07), R261. -/
def execRlca (s : State) : Host.Outcome State Fault Refusal :=
  .next ((s.rotA .rlc).addCycles (s.cost 0x07))

/-- `RRCA` (0x0F), R262. -/
def execRrca (s : State) : Host.Outcome State Fault Refusal :=
  .next ((s.rotA .rrc).addCycles (s.cost 0x0F))

/-- `RLA` (0x17), R263. -/
def execRla (s : State) : Host.Outcome State Fault Refusal :=
  .next ((s.rotA .rl).addCycles (s.cost 0x17))

/-- `RRA` (0x1F), R264. -/
def execRra (s : State) : Host.Outcome State Fault Refusal :=
  .next ((s.rotA .rr).addCycles (s.cost 0x1F))

/-- `RLC B` (0xCB 0x00), R265. -/
def execRlcB (s : State) : Host.Outcome State Fault Refusal :=
  .next ((s.rot .rlc .b).addCycles (s.costCb 0x00))

/-- `RLC C` (0xCB 0x01), R265. -/
def execRlcC (s : State) : Host.Outcome State Fault Refusal :=
  .next ((s.rot .rlc .c).addCycles (s.costCb 0x01))

/-- `RLC D` (0xCB 0x02), R265. -/
def execRlcD (s : State) : Host.Outcome State Fault Refusal :=
  .next ((s.rot .rlc .d).addCycles (s.costCb 0x02))

/-- `RLC E` (0xCB 0x03), R265. -/
def execRlcE (s : State) : Host.Outcome State Fault Refusal :=
  .next ((s.rot .rlc .e).addCycles (s.costCb 0x03))

/-- `RLC H` (0xCB 0x04), R265. -/
def execRlcH (s : State) : Host.Outcome State Fault Refusal :=
  .next ((s.rot .rlc .h).addCycles (s.costCb 0x04))

/-- `RLC L` (0xCB 0x05), R265. -/
def execRlcL (s : State) : Host.Outcome State Fault Refusal :=
  .next ((s.rot .rlc .l).addCycles (s.costCb 0x05))

/-- `RLC (HL)` (0xCB 0x06), R265. -/
def execRlcIndHl (s : State) : Host.Outcome State Fault Refusal :=
  .next ((s.rot .rlc .indHl).addCycles (s.costCb 0x06))

/-- `RLC A` (0xCB 0x07), R265. -/
def execRlcA (s : State) : Host.Outcome State Fault Refusal :=
  .next ((s.rot .rlc .a).addCycles (s.costCb 0x07))

/-- `RRC B` (0xCB 0x08), R266. -/
def execRrcB (s : State) : Host.Outcome State Fault Refusal :=
  .next ((s.rot .rrc .b).addCycles (s.costCb 0x08))

/-- `RRC C` (0xCB 0x09), R266. -/
def execRrcC (s : State) : Host.Outcome State Fault Refusal :=
  .next ((s.rot .rrc .c).addCycles (s.costCb 0x09))

/-- `RRC D` (0xCB 0x0A), R266. -/
def execRrcD (s : State) : Host.Outcome State Fault Refusal :=
  .next ((s.rot .rrc .d).addCycles (s.costCb 0x0A))

/-- `RRC E` (0xCB 0x0B), R266. -/
def execRrcE (s : State) : Host.Outcome State Fault Refusal :=
  .next ((s.rot .rrc .e).addCycles (s.costCb 0x0B))

/-- `RRC H` (0xCB 0x0C), R266. -/
def execRrcH (s : State) : Host.Outcome State Fault Refusal :=
  .next ((s.rot .rrc .h).addCycles (s.costCb 0x0C))

/-- `RRC L` (0xCB 0x0D), R266. -/
def execRrcL (s : State) : Host.Outcome State Fault Refusal :=
  .next ((s.rot .rrc .l).addCycles (s.costCb 0x0D))

/-- `RRC (HL)` (0xCB 0x0E), R266. -/
def execRrcIndHl (s : State) : Host.Outcome State Fault Refusal :=
  .next ((s.rot .rrc .indHl).addCycles (s.costCb 0x0E))

/-- `RRC A` (0xCB 0x0F), R266. -/
def execRrcA (s : State) : Host.Outcome State Fault Refusal :=
  .next ((s.rot .rrc .a).addCycles (s.costCb 0x0F))

/-- `RL B` (0xCB 0x10), R267. -/
def execRlB (s : State) : Host.Outcome State Fault Refusal :=
  .next ((s.rot .rl .b).addCycles (s.costCb 0x10))

/-- `RL C` (0xCB 0x11), R267. -/
def execRlC (s : State) : Host.Outcome State Fault Refusal :=
  .next ((s.rot .rl .c).addCycles (s.costCb 0x11))

/-- `RL D` (0xCB 0x12), R267. -/
def execRlD (s : State) : Host.Outcome State Fault Refusal :=
  .next ((s.rot .rl .d).addCycles (s.costCb 0x12))

/-- `RL E` (0xCB 0x13), R267. -/
def execRlE (s : State) : Host.Outcome State Fault Refusal :=
  .next ((s.rot .rl .e).addCycles (s.costCb 0x13))

/-- `RL H` (0xCB 0x14), R267. -/
def execRlH (s : State) : Host.Outcome State Fault Refusal :=
  .next ((s.rot .rl .h).addCycles (s.costCb 0x14))

/-- `RL L` (0xCB 0x15), R267. -/
def execRlL (s : State) : Host.Outcome State Fault Refusal :=
  .next ((s.rot .rl .l).addCycles (s.costCb 0x15))

/-- `RL (HL)` (0xCB 0x16), R267. -/
def execRlIndHl (s : State) : Host.Outcome State Fault Refusal :=
  .next ((s.rot .rl .indHl).addCycles (s.costCb 0x16))

/-- `RL A` (0xCB 0x17), R267. -/
def execRlA (s : State) : Host.Outcome State Fault Refusal :=
  .next ((s.rot .rl .a).addCycles (s.costCb 0x17))

/-- `RR B` (0xCB 0x18), R268. -/
def execRrB (s : State) : Host.Outcome State Fault Refusal :=
  .next ((s.rot .rr .b).addCycles (s.costCb 0x18))

/-- `RR C` (0xCB 0x19), R268. -/
def execRrC (s : State) : Host.Outcome State Fault Refusal :=
  .next ((s.rot .rr .c).addCycles (s.costCb 0x19))

/-- `RR D` (0xCB 0x1A), R268. -/
def execRrD (s : State) : Host.Outcome State Fault Refusal :=
  .next ((s.rot .rr .d).addCycles (s.costCb 0x1A))

/-- `RR E` (0xCB 0x1B), R268. -/
def execRrE (s : State) : Host.Outcome State Fault Refusal :=
  .next ((s.rot .rr .e).addCycles (s.costCb 0x1B))

/-- `RR H` (0xCB 0x1C), R268. -/
def execRrH (s : State) : Host.Outcome State Fault Refusal :=
  .next ((s.rot .rr .h).addCycles (s.costCb 0x1C))

/-- `RR L` (0xCB 0x1D), R268. -/
def execRrL (s : State) : Host.Outcome State Fault Refusal :=
  .next ((s.rot .rr .l).addCycles (s.costCb 0x1D))

/-- `RR (HL)` (0xCB 0x1E), R268. -/
def execRrIndHl (s : State) : Host.Outcome State Fault Refusal :=
  .next ((s.rot .rr .indHl).addCycles (s.costCb 0x1E))

/-- `RR A` (0xCB 0x1F), R268. -/
def execRrA (s : State) : Host.Outcome State Fault Refusal :=
  .next ((s.rot .rr .a).addCycles (s.costCb 0x1F))

/-- `SLA B` (0xCB 0x20), R269. -/
def execSlaB (s : State) : Host.Outcome State Fault Refusal :=
  .next ((s.rot .sla .b).addCycles (s.costCb 0x20))

/-- `SLA C` (0xCB 0x21), R269. -/
def execSlaC (s : State) : Host.Outcome State Fault Refusal :=
  .next ((s.rot .sla .c).addCycles (s.costCb 0x21))

/-- `SLA D` (0xCB 0x22), R269. -/
def execSlaD (s : State) : Host.Outcome State Fault Refusal :=
  .next ((s.rot .sla .d).addCycles (s.costCb 0x22))

/-- `SLA E` (0xCB 0x23), R269. -/
def execSlaE (s : State) : Host.Outcome State Fault Refusal :=
  .next ((s.rot .sla .e).addCycles (s.costCb 0x23))

/-- `SLA H` (0xCB 0x24), R269. -/
def execSlaH (s : State) : Host.Outcome State Fault Refusal :=
  .next ((s.rot .sla .h).addCycles (s.costCb 0x24))

/-- `SLA L` (0xCB 0x25), R269. -/
def execSlaL (s : State) : Host.Outcome State Fault Refusal :=
  .next ((s.rot .sla .l).addCycles (s.costCb 0x25))

/-- `SLA (HL)` (0xCB 0x26), R269. -/
def execSlaIndHl (s : State) : Host.Outcome State Fault Refusal :=
  .next ((s.rot .sla .indHl).addCycles (s.costCb 0x26))

/-- `SLA A` (0xCB 0x27), R269. -/
def execSlaA (s : State) : Host.Outcome State Fault Refusal :=
  .next ((s.rot .sla .a).addCycles (s.costCb 0x27))

/-- `SRA B` (0xCB 0x28), R270. -/
def execSraB (s : State) : Host.Outcome State Fault Refusal :=
  .next ((s.rot .sra .b).addCycles (s.costCb 0x28))

/-- `SRA C` (0xCB 0x29), R270. -/
def execSraC (s : State) : Host.Outcome State Fault Refusal :=
  .next ((s.rot .sra .c).addCycles (s.costCb 0x29))

/-- `SRA D` (0xCB 0x2A), R270. -/
def execSraD (s : State) : Host.Outcome State Fault Refusal :=
  .next ((s.rot .sra .d).addCycles (s.costCb 0x2A))

/-- `SRA E` (0xCB 0x2B), R270. -/
def execSraE (s : State) : Host.Outcome State Fault Refusal :=
  .next ((s.rot .sra .e).addCycles (s.costCb 0x2B))

/-- `SRA H` (0xCB 0x2C), R270. -/
def execSraH (s : State) : Host.Outcome State Fault Refusal :=
  .next ((s.rot .sra .h).addCycles (s.costCb 0x2C))

/-- `SRA L` (0xCB 0x2D), R270. -/
def execSraL (s : State) : Host.Outcome State Fault Refusal :=
  .next ((s.rot .sra .l).addCycles (s.costCb 0x2D))

/-- `SRA (HL)` (0xCB 0x2E), R270. -/
def execSraIndHl (s : State) : Host.Outcome State Fault Refusal :=
  .next ((s.rot .sra .indHl).addCycles (s.costCb 0x2E))

/-- `SRA A` (0xCB 0x2F), R270. -/
def execSraA (s : State) : Host.Outcome State Fault Refusal :=
  .next ((s.rot .sra .a).addCycles (s.costCb 0x2F))

/-- `SWAP B` (0xCB 0x30), R271. -/
def execSwapB (s : State) : Host.Outcome State Fault Refusal :=
  .next ((s.rot .swap .b).addCycles (s.costCb 0x30))

/-- `SWAP C` (0xCB 0x31), R271. -/
def execSwapC (s : State) : Host.Outcome State Fault Refusal :=
  .next ((s.rot .swap .c).addCycles (s.costCb 0x31))

/-- `SWAP D` (0xCB 0x32), R271. -/
def execSwapD (s : State) : Host.Outcome State Fault Refusal :=
  .next ((s.rot .swap .d).addCycles (s.costCb 0x32))

/-- `SWAP E` (0xCB 0x33), R271. -/
def execSwapE (s : State) : Host.Outcome State Fault Refusal :=
  .next ((s.rot .swap .e).addCycles (s.costCb 0x33))

/-- `SWAP H` (0xCB 0x34), R271. -/
def execSwapH (s : State) : Host.Outcome State Fault Refusal :=
  .next ((s.rot .swap .h).addCycles (s.costCb 0x34))

/-- `SWAP L` (0xCB 0x35), R271. -/
def execSwapL (s : State) : Host.Outcome State Fault Refusal :=
  .next ((s.rot .swap .l).addCycles (s.costCb 0x35))

/-- `SWAP (HL)` (0xCB 0x36), R271. -/
def execSwapIndHl (s : State) : Host.Outcome State Fault Refusal :=
  .next ((s.rot .swap .indHl).addCycles (s.costCb 0x36))

/-- `SWAP A` (0xCB 0x37), R271. -/
def execSwapA (s : State) : Host.Outcome State Fault Refusal :=
  .next ((s.rot .swap .a).addCycles (s.costCb 0x37))

/-- `SRL B` (0xCB 0x38), R272. -/
def execSrlB (s : State) : Host.Outcome State Fault Refusal :=
  .next ((s.rot .srl .b).addCycles (s.costCb 0x38))

/-- `SRL C` (0xCB 0x39), R272. -/
def execSrlC (s : State) : Host.Outcome State Fault Refusal :=
  .next ((s.rot .srl .c).addCycles (s.costCb 0x39))

/-- `SRL D` (0xCB 0x3A), R272. -/
def execSrlD (s : State) : Host.Outcome State Fault Refusal :=
  .next ((s.rot .srl .d).addCycles (s.costCb 0x3A))

/-- `SRL E` (0xCB 0x3B), R272. -/
def execSrlE (s : State) : Host.Outcome State Fault Refusal :=
  .next ((s.rot .srl .e).addCycles (s.costCb 0x3B))

/-- `SRL H` (0xCB 0x3C), R272. -/
def execSrlH (s : State) : Host.Outcome State Fault Refusal :=
  .next ((s.rot .srl .h).addCycles (s.costCb 0x3C))

/-- `SRL L` (0xCB 0x3D), R272. -/
def execSrlL (s : State) : Host.Outcome State Fault Refusal :=
  .next ((s.rot .srl .l).addCycles (s.costCb 0x3D))

/-- `SRL (HL)` (0xCB 0x3E), R272. -/
def execSrlIndHl (s : State) : Host.Outcome State Fault Refusal :=
  .next ((s.rot .srl .indHl).addCycles (s.costCb 0x3E))

/-- `SRL A` (0xCB 0x3F), R272. -/
def execSrlA (s : State) : Host.Outcome State Fault Refusal :=
  .next ((s.rot .srl .a).addCycles (s.costCb 0x3F))

end Sys2Proof.Machine
end

