-- ==== Sys2Proof/Machine/System.lean ====
section
/-!
DEFINITION. The meanings of the system instructions, the prefix entry and the illegal opcodes (R331 to R337).
-/

namespace Sys2Proof.Machine

/-- `NOP` (0x00), R331. -/
def execNop (s : State) : Host.Outcome State Fault Refusal :=
  .next (s.addCycles (s.cost 0x00))

/-- `STOP` (0x10), R333. -/
def execStop (_pad : Byte) (s : State) : Host.Outcome State Fault Refusal :=
  match s.cfg.stopPolicy with
  | .stuck => .next ((s.addCycles (s.cost 0x10)).raise .stopInstruction)
  | .nop => .next (s.addCycles (s.cost 0x10))
  | .fault => .next (s.raise (.unknownOpcode 0x10 (s.pc - 2)))

/-- `HALT` (0x76), R332. -/
def execHalt (s : State) : Host.Outcome State Fault Refusal :=
  .next ({ s with halted := true }.addCycles (s.cost 0x76))

/-- `PREFIX CB` (0xCB), R336: the entry of the second table that its second byte selects. -/
def execPrefixCb (cb : Byte) (s : State) : Host.Outcome State Fault Refusal :=
  .next (s.cbExecute (s.cfg.cbRow cb))

/-- `ILLEGAL` (any byte that is an unknown opcode), R337. -/
def execIllegal (op : Byte) (s : State) : Host.Outcome State Fault Refusal :=
  .next (s.raise (.unknownOpcode op (s.pc - 1)))

/-- `DI` (0xF3), R334. -/
def execDi (s : State) : Host.Outcome State Fault Refusal :=
  .next ({ s with ime := false, pendingIE := false }.addCycles (s.cost 0xF3))

/-- `EI` (0xFB), R335. -/
def execEi (s : State) : Host.Outcome State Fault Refusal :=
  .next ({ s with pendingIE := true }.addCycles (s.cost 0xFB))

end Sys2Proof.Machine
end

