-- ==== Sys2Proof/Machine/Iteration.lean ====
section
/-!
DEFINITION. The iteration, the step of the machine (R360): an interrupt dispatch, a halted tick or
one instruction, then the device update (R361 to R365), and what the end of an instruction does
(R364). In a stopped core there is no iteration (R31, R350).
-/

namespace Sys2Proof.Machine

/-- The devices fed with the cycles added since `c0` (R360 step 4, R365). -/
def State.feedSince (s : State) (c0 : Nat) : State := s.feedDevices (s.cycles - c0)

/-- F's low nibble forced to zero (R24, R364). -/
def State.maskFlags (s : State) : State := { s with f := s.f &&& 0xF0 }

/-- The first instruction after a halt wake pays `HALT_WAKE_PENALTY` (R30, R364, R532). -/
def State.payWakePenalty (s : State) : State :=
  if s.wakePenalty then
    { s with cycles := s.cycles + s.cfg.haltWakePenalty, wakePenalty := false }
  else s

/-- The pending enable becomes IME after the instruction that follows `EI`, unless that instruction
was `DI` (R29, R364). `promote` is `pendingIE` as it was before the instruction. -/
def State.promoteEnable (s : State) (promote : Bool) : State :=
  if promote && s.pendingIE then { s with ime := true, pendingIE := false } else s

/-- What the iteration does after the execute part (R364). -/
def State.finishInstr (s : State) (promote : Bool) : State :=
  s.maskFlags.payWakePenalty.promoteEnable promote

/-- The rest of an iteration that executed an instruction: after a fatal fault nothing (R352),
otherwise the end of the instruction and the device update. `STOP` under the policy `stuck` raises no
fatal fault, so its own iteration is completed (DEDUCED, log entry 15: unsafe by 4 device
cycles). -/
def State.settle (s : State) (promote : Bool) (c0 : Nat) : State :=
  if s.faulted then s else (s.finishInstr promote).feedSince c0

/-- `settle` on the outcome of a meaning. -/
def settleOutcome (promote : Bool) (c0 : Nat) :
    Host.Outcome State Fault Refusal → Host.Outcome State Fault Refusal
  | .next t => .next (t.settle promote c0)
  | .fault r => .fault r
  | .refused r => .refused r

/-- `ExecuteOne()` and the device update after it (R364, R365). A fatal fault of a fetch leaves the
state as it is at the `raise` (R352). -/
def State.executeOne (s : State) : Host.Outcome State Fault Refusal :=
  match s.fetchInstr with
  | .fatal t => .next t
  | .ok i t => settleOutcome s.pendingIE s.cycles (exec i t)

/-- The fault a step answers in a stopped core. -/
def StopReason.fault : StopReason → Fault
  | .unknownOpcode op addr => .unknownOpcode op addr
  | .fetchOutOfRange addr => .fetchOutOfRange addr
  | .pcOutOfRange => .pcOutOfRange
  | .stopInstruction => .stopInstruction

/-- `Iteration()` (R360): exactly one of the three branches, then the devices. A stopped core makes
no iteration (R350, R395): the fault answered names the reason it stopped for (DESIGN CHOICE, log
entry 14: safe). No host action falls inside it (DESIGN CHOICE, log entry 17: unsafe over several
steps), and the cycle counter is not zeroed (DESIGN CHOICE, log entry 20: safe). -/
def iteration (s : State) : Host.Outcome State Fault Refusal :=
  match s.run with
  | .stopped r => .fault r.fault
  | .running =>
    if s.takesInterrupt then .next (s.dispatch.feedSince s.cycles)
    else if s.halted then .next (s.haltedTick.feedSince s.cycles)
    else s.executeOne

end Sys2Proof.Machine
end

