-- ==== Sys2Proof/Machine/Plant.lean ====
section
/-!
DEFINITION. Placing an instruction's bytes where the machine fetches its next instruction. The
machine fetches from the cartridge's ROM image, which the host loads from outside (R37, R392), or
from the byte array; this stands for that load (DESIGN CHOICE,
log entry 13: safe).
-/

namespace Sys2Proof.Machine

/-- An image with one byte set, grown to hold its offset. -/
def Image.plant (img : Image) (off : Nat) (v : Byte) : Image where
  size := max img.size (off + 1)
  data := Memory.write img.data off v

/-- One byte placed so that a fetch at `a` reads it: in the ROM image, in the external RAM (which is
enabled), on both sides of the echo, or in the byte array. -/
def State.plantByte (s : State) (a : Word) (v : Byte) : State :=
  if a.toNat < 0x8000 then { s with rom := s.rom.plant (s.mbc.romOffset a) v }
  else if 0xA000 ≤ a.toNat ∧ a.toNat ≤ 0xBFFF then
    { s with
      mbc := { s.mbc with ramEnable := true }
      extRam := s.extRam.plant (s.mbc.ramOffset a) v }
  else if 0xC000 ≤ a.toNat ∧ a.toNat ≤ 0xDDFF then (s.poke a.toNat v).poke (a.toNat + 0x2000) v
  else if 0xE000 ≤ a.toNat ∧ a.toNat ≤ 0xFDFF then (s.poke a.toNat v).poke (a.toNat - 0x2000) v
  else s.poke a.toNat v

/-- Bytes placed from an address on, in ascending order. -/
def State.plant (s : State) : Word → List Byte → State
  | _, [] => s
  | a, v :: vs => State.plant (s.plantByte a v) (a + 1) vs

/-- The machine made ready to execute at PC: running, not halted, no overflow mark, and, where an
interrupt would be taken first, interrupts off. -/
def State.readyToExecute (s : State) : State :=
  let s := { s with run := .running, halted := false, pcOverflow := false }
  if s.takesInterrupt then { s with ime := false } else s

end Sys2Proof.Machine
end

