-- ==== Sys2Proof/Machine/Step.lean ====
section
/-!
DEFINITION. The step of the machine: one iteration of the run loop (R360); and the same machine with
an instruction placed where the next step fetches it.
-/

namespace Sys2Proof.Machine

/-- One step: one iteration (R360). -/
def step (s : State) : Host.Outcome State Fault Refusal := iteration s

/-- The machine whose next step fetches and runs the instruction of a row's word `w` of `nbits` bits
(DESIGN CHOICE, log entries 6 and 13: safe). -/
def State.withFetchWord (s : State) (nbits w : Nat) : State :=
  (s.plant s.pc (Sys2Proof.tableBytes nbits w)).readyToExecute

end Sys2Proof.Machine
end

