-- ==== Sys2Proof/Machine/HostActions.lean ====
section
/-!
DEFINITION. What the host may do to the core between iterations (R392), each action as a function on
the state: loading a ROM (R69, R90, R96, R525), `reset()` (R520, R523), a frame (R366), the joypad
request (R370), snapshots (R85), and an explicit save (R96, R534). No step does any of these.
-/

namespace Sys2Proof.Machine

/-! ### Loading a ROM -/

/-- Why a ROM is not loaded; nothing changes then (R69, R525, I7, I8, I9). -/
inductive LoadError where
  /-- The header checksum does not match. -/
  | badChecksum
  /-- The cartridge type byte names none of the four controllers. -/
  | unknownType
  /-- The RAM-size code is above 3. -/
  | unknownRamCode
deriving DecidableEq, Repr

/-- What `loadRom` answers. -/
inductive LoadResult where
  | loaded (s : State)
  | rejected (why : LoadError)
deriving DecidableEq, Repr

/-- Byte `n` of an image; a byte the image does not have counts as 0 (DESIGN CHOICE, log entry 19:
unsafe for such an image). -/
def imageByte (bytes : List Byte) (n : Nat) : Byte := bytes.getD n 0

/-- `(-(sum of bytes 0x0134..0x014C) - 1) mod 256` (R69). -/
def headerChecksum (bytes : List Byte) : Byte :=
  -((List.range 25).foldl (fun sum i => sum + imageByte bytes (0x134 + i)) 0) - 1

/-- The controller a cartridge type byte selects (R90). -/
def mbcKindOf (type : Byte) : Option MbcKind :=
  let t := type.toNat
  if t = 0x00 then some .noMbc
  else if 0x01 ≤ t ∧ t ≤ 0x03 then some .mbc1
  else if 0x0F ≤ t ∧ t ≤ 0x13 then some .mbc3
  else if 0x19 ≤ t ∧ t ≤ 0x1E then some .mbc5
  else none

/-- The external RAM size a code stands for (R69). -/
def ramSizeOf (code : Byte) : Option Nat := ([0, 2048, 8192, 32768] : List Nat)[code.toNat]?

/-- `loadRam(gameId, size)` (R96): the persisted bytes, or zeros where there are none or their number
is not the size asked for; the latter is signalled (DEDUCED, log entries 21 and 25: safe). -/
def State.loadRam (s : State) (size : Nat) (saved : Option (List Byte)) : State :=
  match saved with
  | none => { s with extRam := { size := size, data := [] } }
  | some bytes =>
    if bytes.length = size then
      { s with extRam := { size := size, data := Memory.ofBytes 0 bytes } }
    else
      { s with
        extRam := { size := size, data := [] }
        signals := s.signals ++ [Signal.saveSizeMismatch] }

/-- `loadRom(bytes)` (R69, R90, R525): the checks, then the image, a fresh controller and the
external RAM. No CPU register and no byte of the array changes. `saved` is what the host's store
holds for this game. -/
def State.loadRom (s : State) (bytes : List Byte) (saved : Option (List Byte)) : LoadResult :=
  if headerChecksum bytes ≠ imageByte bytes 0x14D then .rejected .badChecksum
  else
    match mbcKindOf (imageByte bytes 0x147), ramSizeOf (imageByte bytes 0x149) with
    | none, _ => .rejected .unknownType
    | some _, none => .rejected .unknownRamCode
    | some kind, some size =>
      let s := { s with
        rom := { size := bytes.length, data := Memory.ofBytes 0 bytes }
        mbc := Mbc.fresh kind }
      .loaded (s.loadRam size saved)

/-- The game's title, the store's key (R69, R534): the header bytes up to the first zero, as they are. The
spec does not say how the title is sanitized; the model does not sanitize it (DESIGN CHOICE, log entry
26: safe). -/
def State.title (s : State) : List Byte :=
  ((List.range 15).map fun i => Memory.read s.rom.data (0x134 + i)).takeWhile (· != 0)

/-! ### The other actions -/

/-- `reset()` (R520): what survives is the ROM image (R523) and the model's own record of signals
and of free values drawn (DESIGN CHOICE, log entry 18: safe). -/
def State.hostReset (s : State) : State :=
  { State.resetOf s.cfg with
    rom := s.rom
    signals := s.signals
    inputReads := s.inputReads
    romDraws := s.romDraws }

/-- `requestInterrupt(4)` by the host's input code (R370, R392). -/
def State.requestJoypad (s : State) : State := s.requestInterrupt 4

/-- The loop of `RunFrame()` (R366): iterations until the V-blank answer, the cycle count of a frame
or a stop. The first argument bounds their number. -/
def runFrameLoop : Nat → State → Host.Outcome State Fault Refusal
  | 0, s => .next s
  | n + 1, s =>
    match step s with
    | .next t =>
      if t.run ≠ .running ∨ t.vblank ∨ 70224 ≤ t.cycles then .next t else runFrameLoop n t
    | .fault r => .fault r
    | .refused r => .refused r

/-- `RunFrame()` (R366): the counter is zeroed first. The bound of 70,224 iterations is enough wherever
each adds a cycle, as it does with every cycle table that holds no zero for an instruction (log entry
20). -/
def runFrame (s : State) : Host.Outcome State Fault Refusal :=
  runFrameLoop 70224 { s with cycles := 0 }

/-- `getSnapshot()`: the state itself, hidden state and devices included (R85). -/
def State.snapshot (s : State) : State := s

/-- `loadSnapshot()` (R85): every piece of state the spec gives the machine is replaced. The ROM and
the parameters are none (R37), and the model's record of signals and of free values drawn goes on
(DESIGN CHOICE, log entry 18: safe). -/
def State.loadSnapshot (s snap : State) : State :=
  { snap with
    rom := s.rom
    cfg := s.cfg
    signals := s.signals
    inputReads := s.inputReads
    romDraws := s.romDraws }

/-- The bytes an explicit save or a save on RAM-disable hands to the host's store (R96, R534). -/
def State.persistedRam (s : State) : List Byte :=
  (List.range s.extRam.size).map fun i => Memory.read s.extRam.data i

end Sys2Proof.Machine
end

