-- ==== Sys2Proof/Safety.lean ====
section
/-!
DEFINITION. What counts as a safe run, the invariants every step keeps, and the vocabulary the
statements use: which bytes a store can change, which addresses an instruction stores to, and where
in its frame the PPU is. Nothing here is part of the machine.
-/

namespace Sys2Proof

/-! ### The parameters -/

/-- `IF_ADDR` is an address of the I/O region that no other rule speaks of, as its default 0xFF0F is
(R32, R79): the IF register has the byte to itself (DESIGN CHOICE, log entry 3: safe). -/
abbrev Config.Ok (p : Config) : Prop :=
  (0xFF01 ≤ p.ifAddr.toNat ∧ p.ifAddr.toNat ≤ 0xFF03) ∨
  (0xFF08 ≤ p.ifAddr.toNat ∧ p.ifAddr.toNat ≤ 0xFF0F) ∨
  (0xFF4C ≤ p.ifAddr.toNat ∧ p.ifAddr.toNat ≤ 0xFF7F)

/-- Are the three cycle tables the spec's defaults (R8, R551)? -/
abbrev Config.DefaultCycles (p : Config) : Prop :=
  p.cycles = defaultCycles ∧ p.cyclesTaken = defaultCyclesTaken ∧ p.cbCycles = defaultCbCycles

end Sys2Proof

namespace Sys2Proof.Machine

/-! ### Safe runs -/

/-- The core is not stopped: the next step has an iteration to make (R31). -/
abbrev State.Live (s : State) : Prop := s.run = .running

/-- `k` steps from `s` end in a core that is still running. -/
def SafeFor (k : Nat) (s : State) : Prop := ∃ t, Host.Core.run Sys2Proof.core k s = .next t ∧ t.Live

/-! ### Time -/

/-- The entry of `CYCLES` or `CB_CYCLES` of an instruction (R8, R551): that of its own byte, or of the
byte after the prefix. -/
def State.cyclesOf (s : State) (i : Instr) : Nat :=
  match encode i with
  | [] => 0
  | b0 :: rest => if b0 = 0xCB then s.costCb (rest.headD 0) else s.cost b0

/-- The entry of `CYCLES_TAKEN` of an instruction (R8, R551). -/
def State.cyclesTakenOf (s : State) (i : Instr) : Nat := s.costTaken ((encode i).headD 0)

/-- The cycles of instruction `i` in this core: `n` where the cycle tables are the spec's defaults, its
entry in the core's own tables in any case (R8, R551, R552). -/
def State.time (s : State) (i : Instr) (n : Nat) : Nat :=
  if s.cfg.DefaultCycles then n else s.cyclesOf i

/-- The same of a conditional transfer that is taken. -/
def State.timeTaken (s : State) (i : Instr) (n : Nat) : Nat :=
  if s.cfg.DefaultCycles then n else s.cyclesTakenOf i

/-! ### Invariants -/

/-- The three byte stores are in canonical form and hold nothing outside their sizes (R35, R97, R99). -/
structure StoresOk (s : State) : Prop where
  mem_wf : Memory.wf s.mem
  mem_below : Memory.below s.mem 0x10000
  ext_wf : Memory.wf s.extRam.data
  ext_below : Memory.below s.extRam.data s.extRam.size
  rom_wf : Memory.wf s.rom.data
  rom_below : Memory.below s.rom.data s.rom.size

/-- Echo RAM and the region it mirrors hold the same bytes (R76). -/
def EchoOk (s : State) : Prop :=
  ∀ n, 0xC000 ≤ n → n ≤ 0xDDFF → s.peek n = s.peek (n + 0x2000)

/-- F's low nibble is zero (R24); nothing is pending, and no wake penalty due, while halted (R363,
R364); under the policy `wrap` the overflow mark does not exist (R23). -/
structure CpuOk (s : State) : Prop where
  flags : s.f &&& 0x0F = 0
  halted_enable : s.halted = true → s.pendingIE = false
  halted_penalty : s.halted = true → s.wakePenalty = false
  wrap : s.cfg.pcOverflowPolicy = .wrap → s.pcOverflow = false

/-- The ROM bank register is never zero (R95), and MBC1 uses five bits of it (R92). -/
structure MbcOk (s : State) : Prop where
  nonzero : s.mbc.romReg ≠ 0
  five_bits : s.mbc.kind = .mbc1 → s.mbc.romReg.toNat < 32

/-- DIV's sub-counter is below its period of 256, the timer's below 1024, the longest period that TAC can
select (R36, R380, R381): TAC may change to a shorter one at any time. -/
structure TimerOk (s : State) : Prop where
  div : s.timer.divSub < 256
  tima : s.timer.timaSub < 1024

/-- The PPU's counters are those of a point in a frame, and its buffers have their shapes (R420,
R430, R431). -/
structure PpuOk (p : Ppu) : Prop where
  line : p.line < 154
  mode : p.mode = .vblank ↔ 144 ≤ p.line
  clock : p.modeClock < p.mode.duration
  rows : p.fb.length = 144
  columns : ∀ row ∈ p.fb, row.length = 160
  indices : p.bgIdx.length = 160
  sprites : p.sprites.length ≤ 10 ∧ ∀ n ∈ p.sprites, n < 40

/-- NR52 in memory is the power bit alone; with the power off every register reads zero in memory
and no channel is enabled; the sequencer's counter is below one step (R471, R480). -/
structure ApuOk (s : State) : Prop where
  power : s.peek 0xFF26 = if s.apu.power then 0x80 else 0
  registers : s.apu.power = false → ∀ n, 0xFF10 ≤ n → n ≤ 0xFF25 → s.peek n = 0
  silent : s.apu.power = false → s.apu.status = 0
  clock : s.apu.fsClock < 8192

/-- The invariant of the machine, in a core whose `IF_ADDR` is as `Config.Ok` says. -/
structure Inv (s : State) : Prop where
  cfg : Config.Ok s.cfg
  stores : StoresOk s
  echo : EchoOk s
  cpu : CpuOk s
  mbc : MbcOk s
  timer : TimerOk s
  ppu : PpuOk s.ppu
  apu : ApuOk s

/-! ### What a store can change -/

/-- The bytes of the array that a bus write at `a` can change (R66, R71): none below 0x8000 and in
the external RAM window, the byte and its mirror in work RAM and its echo, the OAM as well at
0xFF46, all the APU's registers at 0xFF26, and elsewhere the byte itself. -/
def storedBytes (a : Word) (n : Nat) : Prop :=
  if a.toNat < 0x8000 then False
  else if 0xA000 ≤ a.toNat ∧ a.toNat ≤ 0xBFFF then False
  else if 0xC000 ≤ a.toNat ∧ a.toNat ≤ 0xDDFF then n = a.toNat ∨ n = a.toNat + 0x2000
  else if 0xE000 ≤ a.toNat ∧ a.toNat ≤ 0xFDFF then n = a.toNat ∨ n = a.toNat - 0x2000
  else if a.toNat = 0xFF26 then 0xFF10 ≤ n ∧ n ≤ 0xFF26
  else if a.toNat = 0xFF46 then n = 0xFF46 ∨ 0xFE00 ≤ n ∧ n ≤ 0xFE9F
  else n = a.toNat

/-- The addresses an instruction stores to, in the state it is executed in, in the order of its bus
writes (R64): the operand of a `(HL)`, `(BC)`, `(DE)`, `(a16)`, `(a8)` or `(C)` store, and for a push, a
taken call and `RST` the two bytes below SP. -/
def storeAddrs (i : Instr) (s : State) : List Word :=
  match i with
  | .ldIndBcA => [s.bc]
  | .ldIndDeA => [s.de]
  | .ldIndHlIncA | .ldIndHlDecA | .incIndHl | .decIndHl | .ldIndHlD8 _ | .ldIndHlB | .ldIndHlC
  | .ldIndHlD | .ldIndHlE | .ldIndHlH | .ldIndHlL | .ldIndHlA => [s.hl]
  | .rlcIndHl | .rrcIndHl | .rlIndHl | .rrIndHl | .slaIndHl | .sraIndHl | .swapIndHl
  | .srlIndHl => [s.hl]
  | .res0IndHl | .res1IndHl | .res2IndHl | .res3IndHl | .res4IndHl | .res5IndHl | .res6IndHl
  | .res7IndHl | .set0IndHl | .set1IndHl | .set2IndHl | .set3IndHl | .set4IndHl | .set5IndHl
  | .set6IndHl | .set7IndHl => [s.hl]
  | .prefixCb cb =>
    let row := (s.cfg.cbRow cb).toNat
    if row % 8 = 6 ∧ (row < 0x40 ∨ 0x80 ≤ row) then [s.hl] else []
  | .ldhIndA8A a8 => [highPage a8]
  | .ldIndCA => [highPage s.c]
  | .ldIndA16A a16 => [a16]
  | .ldIndA16Sp a16 => [a16, a16 + 1]
  | .pushBc | .pushDe | .pushHl | .pushAf | .callA16 _ | .rst00 | .rst08 | .rst10 | .rst18
  | .rst20 | .rst28 | .rst30 | .rst38 => [s.sp - 1, s.sp - 2]
  | .callNzA16 _ => if s.cond .nz then [s.sp - 1, s.sp - 2] else []
  | .callZA16 _ => if s.cond .z then [s.sp - 1, s.sp - 2] else []
  | .callNcA16 _ => if s.cond .nc then [s.sp - 1, s.sp - 2] else []
  | .callCA16 _ => if s.cond .c then [s.sp - 1, s.sp - 2] else []
  | _ => []

/-- Addresses that are plain storage on the bus (R73, R75, R77, R78, R79, R84): VRAM, work RAM without
an echo, OAM and what follows it, the I/O addresses without a rule of their own, high RAM, and IE. -/
def PlainAddress (a : Word) : Prop :=
  (0x8000 ≤ a.toNat ∧ a.toNat ≤ 0x9FFF) ∨ (0xDE00 ≤ a.toNat ∧ a.toNat ≤ 0xDFFF) ∨
  (0xFE00 ≤ a.toNat ∧ a.toNat ≤ 0xFEFF) ∨ (0xFF01 ≤ a.toNat ∧ a.toNat ≤ 0xFF03) ∨
  (0xFF05 ≤ a.toNat ∧ a.toNat ≤ 0xFF0F) ∨ (0xFF40 ≤ a.toNat ∧ a.toNat ≤ 0xFF45) ∨
  (0xFF47 ≤ a.toNat ∧ a.toNat ≤ 0xFFFF)

/-- Addresses where a byte stored is the byte read back: plain storage, and work RAM with its echo. -/
def RamAddress (a : Word) : Prop := PlainAddress a ∨ (0xC000 ≤ a.toNat ∧ a.toNat ≤ 0xFDFF)

/-! ### What an instruction leaves -/

/-- The device and cartridge part of the state is the same. -/
def SameDevices (s t : State) : Prop :=
  t.timer = s.timer ∧ t.ppu = s.ppu ∧ t.apu = s.apu ∧ t.mbc = s.mbc ∧ t.extRam = s.extRam ∧
    t.rom = s.rom ∧ t.cfg = s.cfg ∧ t.vblank = s.vblank ∧ t.signals = s.signals

/-- When a condition holds (R127), from the bits of F. -/
def holds (s : State) : Cond → Bool
  | .nz => !s.f.getLsbD 7
  | .z => s.f.getLsbD 7
  | .nc => !s.f.getLsbD 4
  | .c => s.f.getLsbD 4

/-- The four flags and the low nibble of F (R24). -/
def FlagsAre (f : Byte) (z n h c : Bool) : Prop :=
  f.getLsbD 7 = z ∧ f.getLsbD 6 = n ∧ f.getLsbD 5 = h ∧ f.getLsbD 4 = c ∧ f.extractLsb' 0 4 = 0

/-- From `s` to `t`, with `n` cycles: nothing changed but A and F. (The counters of free values move
when the operand was read from memory; they are the model's own.) -/
def AccumulatorOnly (s t : State) (n : Nat) : Prop :=
  t = { s with
    a := t.a, f := t.f, cycles := s.cycles + n, inputReads := t.inputReads, romDraws := t.romDraws }

/-- From `s` to `t`, with `n` cycles: nothing changed but the byte register `x` names, and F. -/
def RegisterOnly (s t : State) (x : Operand8) (n : Nat) : Prop :=
  (∀ r, r ≠ x → r ≠ .indHl → t.operand r = s.operand r) ∧
  t = { s with
    a := t.a, f := t.f, b := t.b, c := t.c, d := t.d, e := t.e, h := t.h, l := t.l
    cycles := s.cycles + n, inputReads := t.inputReads, romDraws := t.romDraws }

/-- From `s` to `t`, with `n` cycles: the byte `v` written to the operand, F changed to `t.f`, nothing
else. For `(HL)` the write is the bus write at HL, after the read of the operand. -/
def OperandBecomes (s t : State) (x : Operand8) (v : Byte) (n : Nat) : Prop :=
  if x = .indHl then
    t = { (s.busTouch s.hl).busWrite s.hl v with f := t.f, cycles := s.cycles + n }
  else t.operand x = v ∧ RegisterOnly s t x n

/-- Bit `k` of the result of a rotate, shift or swap of `v` with carry `c` (R261 to R272), written bit
by bit: `c <- v[7]; r <- {v[6:0], c}` is `rlc`, and so on. -/
def rotBit (op : RotOp) (v : Byte) (c : Bool) (k : Nat) : Bool :=
  match op with
  | .rlc => if k = 0 then v.getLsbD 7 else v.getLsbD (k - 1)
  | .rrc => if k = 7 then v.getLsbD 0 else v.getLsbD (k + 1)
  | .rl => if k = 0 then c else v.getLsbD (k - 1)
  | .rr => if k = 7 then c else v.getLsbD (k + 1)
  | .sla => if k = 0 then false else v.getLsbD (k - 1)
  | .sra => if k = 7 then v.getLsbD 7 else v.getLsbD (k + 1)
  | .swap => v.getLsbD ((k + 4) % 8)
  | .srl => if k = 7 then false else v.getLsbD (k + 1)

/-- The bit of the operand that a rotate or shift moves into C; `SWAP` clears C (R261 to R272). -/
def rotOut (op : RotOp) (v : Byte) : Bool :=
  match op with
  | .rlc | .rl | .sla => v.getLsbD 7
  | .rrc | .rr | .sra | .srl => v.getLsbD 0
  | .swap => false

/-- Two decimal digits in a byte, for a number below 100. -/
def bcd (n : Nat) : Byte := BitVec.ofNat 8 (16 * (n / 10) + n % 10)

/-! ### Where the PPU is in its frame -/

/-- Cycles of a line before a mode of it begins (R430, R431). -/
def PpuMode.offset : PpuMode → Nat
  | .hblank => 252
  | .vblank => 0
  | .oamScan => 0
  | .transfer => 80

/-- Cycles since the start of the frame: 456 a line (R431, R550). -/
def Ppu.framePos (p : Ppu) : Nat := 456 * p.line + p.mode.offset + p.modeClock

/-! ### The halt loop -/

/-- A core that is going round a `HALT` at the ROM address `h` with interrupts off and a request
pending (R541): either `HALT` is the next instruction, or the core is halted just behind it. -/
structure HaltLoop (h : Word) (s : State) : Prop where
  cfg : Config.Ok s.cfg
  live : s.Live
  ime : s.ime = false
  pendingIE : s.pendingIE = false
  noMark : s.pcOverflow = false
  request : s.pending ≠ 0
  inRom : h.toNat < 0x8000
  present : s.romInRange h = true
  isHalt : s.cfg.row (s.readRom h) = some 0x76
  place : (s.halted = false ∧ s.pc = h) ∨ (s.halted = true ∧ s.pc = h + 1)

end Sys2Proof.Machine
end

