-- ==== Sys2Proof/Certificates/Slice0/Obligations.lean ====
section
/-!
DEFINITION. The statements for the provers. Each docstring names the rules of the spec it formalises.
Where a statement says `t = { s with … }`, every field it does not list is unchanged: it is its own
frame. The counters `inputReads` and `romDraws` are the model's own (log entries 4 and 5); a statement
that lets them move says nothing of a free value. The cycles of an instruction are written
`s.time i n`: the number `n` of its rule where the core has the spec's default cycle tables, and its entry
in the core's own tables in any case (R8, R551, R552; `s.timeTaken` for a conditional transfer taken).
-/

open Sys2Proof Sys2Proof.Machine

/-! ### Encoding -/

/-- A few words written out from the encodings of R129 to R133. -/
def Obligations.DecodeWords : Prop :=
  decode 0x41 0 0 = .ldBC ∧ decode 0x3E 0x42 0 = .ldAD8 0x42 ∧ decode 0x36 0x07 0 = .ldIndHlD8 0x07 ∧
  decode 0xEA 0x00 0x21 = .ldIndA16A 0x2100 ∧ decode 0x21 0x34 0x12 = .ldHlD16 0x1234 ∧
  decode 0xF8 0x08 0 = .ldHlSpE8 0x08 ∧ decode 0x9C 0 0 = .sbcAH ∧ decode 0xE6 0x0F 0 = .andD8 0x0F ∧
  decode 0x2D 0 0 = .decL ∧ decode 0x29 0 0 = .addHlHl ∧ decode 0x1F 0 0 = .rra ∧
  decode 0xCB 0x15 0 = .rlL ∧ decode 0xCB 0x7F 0 = .bit7A ∧ decode 0xCB 0xDE 0 = .set3IndHl ∧
  decode 0x18 0xFE 0 = .jrE8 0xFE ∧ decode 0xDC 0x00 0x80 = .callCA16 0x8000 ∧ decode 0xEF 0 0 = .rst28 ∧
  decode 0x76 0 0 = .halt ∧ decode 0xFB 0 0 = .ei ∧ decode 0xDD 0 0 = .illegal 0xDD

/-- R129 to R133: the opcode map, block by block, with the operand tables of R124 to R127, whatever the
bytes after the opcode: each group of opcodes by its fields, then the opcodes that stand alone, then the
second table, and the eleven bytes of R134 that select no instruction. -/
def Obligations.OpcodeMap : Prop :=
  ∀ (y z p : Nat) (b1 b2 : Byte), y < 8 → z < 8 → p < 4 →
    let op := fun (n : Nat) => decode (BitVec.ofNat 8 n) b1 b2
    let cb := fun (n : Nat) => decode 0xCB (BitVec.ofNat 8 n) b2
    let w := mkWord b2 b1
    let x := fun (n : Nat) => ([.b, .c, .d, .e, .h, .l, .indHl, .a] : List Operand8).getD n .a
    let rr := ([.bc, .de, .hl, .sp] : List Reg16).getD p .sp
    let stk := ([.bc, .de, .hl, .af] : List Reg16Stk).getD p .af
    let cc := ([.nz, .z, .nc, .c] : List Cond).getD p .c
    let alu := ([.add, .adc, .sub, .sbc, .and, .xor, .or, .cp] : List AluOp).getD y .cp
    let rot := ([.rlc, .rrc, .rl, .rr, .sla, .sra, .swap, .srl] : List RotOp).getD y .srl
    (op (0x01 + 16 * p) = ldImm16Of rr w ∧ op (0x09 + 16 * p) = addHlOf rr ∧
      op (0x03 + 16 * p) = inc16Of rr ∧ op (0x0B + 16 * p) = dec16Of rr ∧
      op (0x04 + 8 * y) = incOf (x y) ∧ op (0x05 + 8 * y) = decOf (x y) ∧
      op (0x06 + 8 * y) = ldImmOf (x y) b1 ∧ op (0x20 + 8 * p) = jrCcOf cc b1) ∧
    (y ≠ 6 ∨ z ≠ 6 → op (0x40 + 8 * y + z) = ldOf (x y) (x z)) ∧ op 0x76 = .halt ∧
    op (0x80 + 8 * y + z) = aluOf alu (x z) ∧
    (op (0xC0 + 8 * p) = retCcOf cc ∧ op (0xC1 + 16 * p) = popOf stk ∧
      op (0xC2 + 8 * p) = jpCcOf cc w ∧ op (0xC4 + 8 * p) = callCcOf cc w ∧
      op (0xC5 + 16 * p) = pushOf stk ∧ op (0xC6 + 8 * y) = aluImmOf alu b1 ∧
      op (0xC7 + 8 * y) = rstOf y) ∧
    (op 0x00 = .nop ∧ op 0x08 = .ldIndA16Sp w ∧ op 0x10 = .stop b1 ∧ op 0x18 = .jrE8 b1 ∧
      op 0x02 = .ldIndBcA ∧ op 0x12 = .ldIndDeA ∧ op 0x22 = .ldIndHlIncA ∧ op 0x32 = .ldIndHlDecA ∧
      op 0x0A = .ldAIndBc ∧ op 0x1A = .ldAIndDe ∧ op 0x2A = .ldAIndHlInc ∧ op 0x3A = .ldAIndHlDec ∧
      op 0x07 = .rlca ∧ op 0x0F = .rrca ∧ op 0x17 = .rla ∧ op 0x1F = .rra ∧ op 0x27 = .daa ∧
      op 0x2F = .cpl ∧ op 0x37 = .scf ∧ op 0x3F = .ccf) ∧
    (op 0xE0 = .ldhIndA8A b1 ∧ op 0xE8 = .addSpE8 b1 ∧ op 0xF0 = .ldhAIndA8 b1 ∧
      op 0xF8 = .ldHlSpE8 b1 ∧ op 0xC9 = .ret ∧ op 0xD9 = .reti ∧ op 0xE9 = .jpHl ∧ op 0xF9 = .ldSpHl ∧
      op 0xE2 = .ldIndCA ∧ op 0xEA = .ldIndA16A w ∧ op 0xF2 = .ldAIndC ∧ op 0xFA = .ldAIndA16 w ∧
      op 0xC3 = .jpA16 w ∧ op 0xF3 = .di ∧ op 0xFB = .ei ∧ op 0xCD = .callA16 w) ∧
    (cb (8 * y + z) = rotOf rot (x z) ∧ cb (0x40 + 8 * y + z) = bitOf y (x z) ∧
      cb (0x80 + 8 * y + z) = resOf y (x z) ∧ cb (0xC0 + 8 * y + z) = setOf y (x z)) ∧
    (∀ n ∈ [0xD3, 0xDB, 0xDD, 0xE3, 0xE4, 0xEB, 0xEC, 0xED, 0xF4, 0xFC, 0xFD],
      op n = .illegal (BitVec.ofNat 8 n))

/-- Decoding the bytes of a well-formed instruction gives it back, with every operand, and leaves the
bytes after it. -/
def Obligations.DecodeEncode : Prop :=
  ∀ (i : Instr) (rest : List Byte), i.WellFormed → decodeBytes (encode i ++ rest) = .ok (i, rest)

/-- R120, R136, R140: decode is total on bytes. Any three bytes decode to a well-formed instruction,
whose own bytes are the first of them: no bit is dropped, and no two byte strings mean one instruction.
Their number is one to three and a function of the first byte, by the lists of R136. A core reads its
bytes through its own parameters (R8, log entry 1): a byte of `ILLEGAL` is the illegal instruction, any
other is decoded as the row its `OPCODE_MAP` gives it, and with the defaults that is this decoder. -/
def Obligations.EncodeDecode : Prop :=
  ∀ b0 b1 b2 : Byte, (decode b0 b1 b2).WellFormed ∧
    encode (decode b0 b1 b2) = [b0, b1, b2].take (instrLength b0) ∧
    (instrLength b0 =
      if b0.toNat ∈ [0x01, 0x11, 0x21, 0x31, 0x08, 0xC2, 0xC3, 0xC4, 0xCA, 0xCC, 0xCD, 0xD2, 0xD4,
        0xDA, 0xDC, 0xEA, 0xFA] then 3
      else if b0.toNat ∈ [0x06, 0x0E, 0x16, 0x1E, 0x26, 0x2E, 0x36, 0x3E, 0x10, 0x18, 0x20, 0x28, 0x30,
        0x38, 0xC6, 0xCE, 0xD6, 0xDE, 0xE6, 0xEE, 0xF6, 0xFE, 0xE0, 0xF0, 0xE8, 0xF8, 0xCB] then 2
      else 1) ∧
    (∀ p : Config, b0 ∈ p.illegal →
      p.decode b0 b1 b2 = .illegal b0 ∧ p.instrLength b0 = 1) ∧
    (∀ p : Config, b0 ∉ p.illegal →
      let row := (p.opcodeMap.lookup b0).getD b0
      (row ∉ illegalOpcodes → p.instrLength b0 = instrLength row ∧
        p.decode b0 b1 b2 =
          decode row (if row = 0xCB then (p.cbMap.lookup b1).getD b1 else b1) b2)) ∧
    Config.default.decode b0 b1 b2 = decode b0 b1 b2 ∧
    Config.default.instrLength b0 = instrLength b0

/-- R336: the prefix entry, with its second byte, completes at every second byte, with the next state
of the instruction behind the prefix that the core's map gives that byte (with the default map, the
byte's own row). -/
def Obligations.PrefixRunsSecondTable : Prop :=
  ∀ (cb : Byte) (s : State), ∃ t, exec (.prefixCb cb) s = .next t ∧
    exec (decode 0xCB (s.cfg.cbRow cb) 0) s = .next t

/-! ### The bus -/

/-- R73, R75, R77, R78, R79, R84: at a plain address a store changes that byte and nothing else, and a read
gives the byte stored. R82: a store to DIV zeroes the register and its sub-counter whatever the value,
and changes nothing else. -/
def Obligations.PlainStorage : Prop :=
  ∀ (s : State) (a : Word) (v : Byte),
    (PlainAddress a →
      (∀ n, (s.busWrite a v).peek n = if n = a.toNat then v else s.peek n) ∧
      s.busWrite a v = { s with mem := (s.busWrite a v).mem } ∧
      s.busRead a = s.peek a.toNat) ∧
    (∀ n, (s.busWrite 0xFF04 v).peek n = if n = 0xFF04 then 0 else s.peek n) ∧
    s.busWrite 0xFF04 v =
      { s with mem := (s.busWrite 0xFF04 v).mem, timer := { s.timer with divSub := 0 } } ∧
    s.busRead 0xFF04 = s.peek 0xFF04

/-- R76: a write on either side of the mirrored window is read back on both sides, and after any
write at all the two sides are the same if they were before. -/
def Obligations.EchoSynchronised : Prop :=
  (∀ (s : State) (a : Word) (v : Byte), 0xC000 ≤ a.toNat → a.toNat ≤ 0xDDFF →
    (s.busWrite a v).busRead a = v ∧ (s.busWrite a v).busRead (a + 0x2000) = v ∧
    (s.busWrite (a + 0x2000) v).busRead a = v ∧ (s.busWrite (a + 0x2000) v).busRead (a + 0x2000) = v) ∧
  (∀ (s : State) (a : Word) (v : Byte), EchoOk s → EchoOk (s.busWrite a v))

/-- The frame of every bus access (R66, R71): a write leaves every byte of the array outside
`storedBytes`, every CPU register, the PPU, the ROM and the parameters as they were; the controller's
registers and the signals change only below 0x8000, the external RAM's bytes only in 0xA000-0xBFFF, DIV's
sub-counter only at 0xFF04, the APU only in 0xFF10-0xFF3F, the model's own counters only by the DMA copy;
a read leaves everything as it was but those counters. -/
def Obligations.BusFrames : Prop :=
  (∀ (s : State) (a : Word) (v : Byte) (n : Nat), ¬ storedBytes a n →
    (s.busWrite a v).peek n = s.peek n) ∧
  (∀ (s : State) (a : Word) (v : Byte),
    let t := s.busWrite a v
    t = { s with
      mem := t.mem
      mbc := { t.mbc with kind := s.mbc.kind }
      extRam := { s.extRam with data := t.extRam.data }
      timer := { s.timer with divSub := t.timer.divSub }
      apu := t.apu, signals := t.signals, inputReads := t.inputReads, romDraws := t.romDraws } ∧
    (0x8000 ≤ a.toNat → t.mbc = s.mbc ∧ t.signals = s.signals) ∧
    (a.toNat < 0xA000 ∨ 0xBFFF < a.toNat → t.extRam = s.extRam) ∧
    (a.toNat ≠ 0xFF04 → t.timer = s.timer) ∧
    (a.toNat < 0xFF10 ∨ 0xFF3F < a.toNat → t.apu = s.apu) ∧
    (a.toNat ≠ 0xFF46 → t.inputReads = s.inputReads ∧ t.romDraws = s.romDraws)) ∧
  (∀ (s : State) (a : Word), ∃ inputReads romDraws,
    s.busTouch a = { s with inputReads := inputReads, romDraws := romDraws })

/-- R72: a write below 0x8000 changes no memory and no byte of the ROM or of the external RAM; a read
there gives what it gave before unless another bank is mapped. -/
def Obligations.RomIsNotWritten : Prop :=
  ∀ (s : State) (a : Word) (v : Byte), a.toNat < 0x8000 →
    s.busWrite a v =
      { s with mbc := (s.busWrite a v).mbc, signals := (s.busWrite a v).signals } ∧
    ((s.busWrite a v).mbc.romBank = s.mbc.romBank →
      ∀ b : Word, b.toNat < 0x8000 → (s.busWrite a v).busRead b = s.busRead b)

/-- R91 to R95: what each controller does with a write in each ROM window, MBC5 as MBC3; the bank
mappings that follow; a ROM bank register written is never 0, and writing it twice is writing it once.
`persistRam` and `unsupportedRtcLatch` are the signals of R92, R96 and R93, as the model records them; that
`persistRam` is sent only if RAM was enabled before is the model's reading (log entry 21). -/
def Obligations.ControllerWindows : Prop :=
  ∀ (s : State) (a : Word) (v : Byte),
    (a.toNat ≤ 0x1FFF → s.busWrite a v = { s with
      mbc := { s.mbc with ramEnable := decide (v.toNat % 16 = 0x0A) }
      signals := s.signals ++
        (if s.mbc.ramEnable = true ∧ v.toNat % 16 ≠ 0x0A then [Signal.persistRam] else []) }) ∧
    (0x2000 ≤ a.toNat → a.toNat ≤ 0x7FFF → s.mbc.kind = .noMbc → s.busWrite a v = s) ∧
    (0x2000 ≤ a.toNat → a.toNat ≤ 0x3FFF → s.mbc.kind = .mbc1 → s.busWrite a v = { s with
      mbc := { s.mbc with romReg := BitVec.ofNat 7 (max 1 (v.toNat % 32)) } }) ∧
    (0x2000 ≤ a.toNat → a.toNat ≤ 0x3FFF → s.mbc.kind = .mbc3 ∨ s.mbc.kind = .mbc5 →
      s.busWrite a v = { s with
        mbc := { s.mbc with romReg := BitVec.ofNat 7 (max 1 (v.toNat % 128)) } }) ∧
    (0x4000 ≤ a.toNat → a.toNat ≤ 0x5FFF → s.mbc.kind ≠ .noMbc → s.busWrite a v = { s with
      mbc := { s.mbc with ramReg := BitVec.ofNat 2 v.toNat } }) ∧
    (0x6000 ≤ a.toNat → a.toNat ≤ 0x7FFF → s.mbc.kind = .mbc1 → s.busWrite a v = { s with
      mbc := { s.mbc with mode := decide (v.toNat % 2 = 1) } }) ∧
    (0x6000 ≤ a.toNat → a.toNat ≤ 0x7FFF → s.mbc.kind = .mbc3 ∨ s.mbc.kind = .mbc5 →
      s.busWrite a v = { s with signals := s.signals ++ [Signal.unsupportedRtcLatch] }) ∧
    (s.mbc.kind = .noMbc → s.mbc.romBank = 1 ∧ s.mbc.ramBank = 0) ∧
    (s.mbc.kind = .mbc1 →
      s.mbc.romBank = s.mbc.romReg.toNat % 32 + (if s.mbc.mode then 0 else 32 * s.mbc.ramReg.toNat) ∧
      s.mbc.ramBank = if s.mbc.mode then s.mbc.ramReg.toNat else 0) ∧
    (s.mbc.kind = .mbc3 ∨ s.mbc.kind = .mbc5 →
      s.mbc.romBank = s.mbc.romReg.toNat ∧ s.mbc.ramBank = s.mbc.ramReg.toNat) ∧
    (0x2000 ≤ a.toNat → a.toNat ≤ 0x3FFF → s.mbc.kind ≠ .noMbc →
      (s.busWrite a v).mbc.romReg ≠ 0 ∧ (s.busWrite a v).busWrite a v = s.busWrite a v)

/-- R97: the external RAM window, enabled and in range or not. -/
def Obligations.ExternalRam : Prop :=
  ∀ (s : State) (a : Word) (v : Byte), 0xA000 ≤ a.toNat → a.toNat ≤ 0xBFFF →
    let off := s.mbc.ramBank * 0x2000 + (a.toNat - 0xA000)
    (s.mbc.ramEnable = true → off < s.extRam.size →
      s.busRead a = Memory.read s.extRam.data off ∧
      s.busWrite a v = { s with extRam := (s.busWrite a v).extRam } ∧
      (s.busWrite a v).extRam.size = s.extRam.size ∧
      ∀ n, Memory.read (s.busWrite a v).extRam.data n =
        if n = off then v else Memory.read s.extRam.data n) ∧
    (s.mbc.ramEnable = false ∨ s.extRam.size ≤ off →
      s.busRead a = s.cfg.extRamDisabledRead ∧ s.busWrite a v = s)

/-- R99: which byte of the image an address below 0x8000 reads; a fetch past the end of the image is
fatal; a data read there goes on, with a free value (`Config.romDraw`, log entry 5). -/
def Obligations.RomReads : Prop :=
  ∀ (s : State) (a : Word), a.toNat < 0x8000 →
    let off := if a.toNat < 0x4000 then a.toNat else s.mbc.romBank * 0x4000 + (a.toNat - 0x4000)
    (s.romInRange a = true ↔ off < s.rom.size) ∧
    (off < s.rom.size → s.busRead a = Memory.read s.rom.data off) ∧
    (s.rom.size ≤ off → s.busRead a = Config.romDraw s.romDraws) ∧
    (s.rom.size ≤ off → s.pc = a → s.pcOverflow = false →
      s.fetch8 = .fatal { s with run := .stopped (.fetchOutOfRange a) })

/-- R80: the joypad byte, bit by bit, for every live mask `m` of the host (`Config.inputMask` is free,
log entry 4), and the selector, which is the byte last written. -/
def Obligations.JoypadRead : Prop :=
  ∀ (s : State) (v : Byte),
    let m := Config.inputMask s.inputReads
    let sel := s.peek 0xFF00
    let r := s.busRead 0xFF00
    r.getLsbD 7 = true ∧ r.getLsbD 6 = true ∧
    r.getLsbD 5 = sel.getLsbD 5 ∧ r.getLsbD 4 = sel.getLsbD 4 ∧
    (∀ k, k < 4 → r.getLsbD k =
      ((sel.getLsbD 4 || !m.getLsbD k) && (sel.getLsbD 5 || !m.getLsbD (k + 4)))) ∧
    (s.busWrite 0xFF00 v).peek 0xFF00 = v

/-- R81: a store to 0xFF46 copies 0xA0 bytes, each as the bus reads it, into OAM before the
instruction ends, adds no cycles, and changes no other byte of the array. (A source byte that lies past
the end of the ROM image is a free value and is left out; so is a source page that is OAM itself, for
which the copy changes nothing.) -/
def Obligations.DmaCopies : Prop :=
  ∀ (s : State) (v : Byte),
    let t := s.busWrite 0xFF46 v
    let s' := s.poke 0xFF46 v
    (∀ i, i < 0xA0 → v ≠ 0xFE →
      (∀ j, j < 0xA0 → v.toNat < 0x80 → s.romInRange (mkWord v 0 + BitVec.ofNat 16 j) = true) →
      t.peek (0xFE00 + i) = s'.busRead (mkWord v 0 + BitVec.ofNat 16 i)) ∧
    (v = 0xFE → ∀ n, t.peek n = s'.peek n) ∧
    (∀ n, n < 0xFE00 ∨ 0xFE9F < n → t.peek n = s'.peek n) ∧
    t.cycles = s.cycles ∧ t.halted = s.halted

/-- R83 and R510: what the APU window reads. Every byte is the stored one with its unreadable bits
high; NR52 has the power bit, three ones, and the live channel bits. -/
def Obligations.ApuReadBack : Prop :=
  ∀ (s : State) (off : Nat), off < 0x30 →
    let a : Word := 0xFF10 + BitVec.ofNat 16 off
    let masks : List Byte :=
      [0x80, 0x3F, 0x00, 0xFF, 0xBF, 0xFF, 0x3F, 0x00, 0xFF, 0xBF, 0x7F, 0xFF, 0x9F, 0xFF, 0xBF, 0xFF,
       0xFF, 0x00, 0x00, 0xBF, 0x00, 0x00, 0x70, 0xFF, 0xFF, 0xFF, 0xFF, 0xFF, 0xFF, 0xFF, 0xFF, 0xFF]
    (off ≠ 0x16 → s.busRead a = s.peek (0xFF10 + off) ||| masks.getD off 0x00) ∧
    (off = 0x16 → s.busRead a =
      s.peek 0xFF26 ||| 0x70 ||| (if s.apu.ch1.enabled then 1 else 0) |||
        (if s.apu.ch2.enabled then 2 else 0) ||| (if s.apu.ch3.enabled then 4 else 0) |||
        (if s.apu.ch4.enabled then 8 else 0))

/-! ### Loads and stores -/

/-- R160, R161, R163: a register loaded from a register (4 cycles), from the byte at HL (8) or with an
immediate (8). F is unchanged. Covers `LD r,r'`, `LD r,(HL)`, `LD r,d8`. -/
def Obligations.LoadRegister : Prop :=
  ∀ (s : State) (dst src : Operand8) (d8 : Byte), dst ≠ .indHl →
    (∃ t, exec (ldOf dst src) s = .next t ∧ t.operand dst = s.operand src ∧ t.f = s.f ∧
      RegisterOnly s t dst (s.time (ldOf dst src) (if src = .indHl then 8 else 4))) ∧
    (∃ t, exec (ldImmOf dst d8) s = .next t ∧ t.operand dst = d8 ∧ t.f = s.f ∧
      RegisterOnly s t dst (s.time (ldImmOf dst d8) 8))

/-- R162, R164, R167, R168, R170, R173, R175, R176, R178: a byte stored through the bus: a register or an
immediate at HL; A at (BC), (DE), an absolute address, page 0xFF, and at HL with HL stepped afterwards.
Nothing else changes, so by `BusFrames` no byte outside `storedBytes` of the address. -/
def Obligations.ByteStores : Prop :=
  ∀ (s : State) (src : Operand8) (d8 a8 : Byte) (a16 : Word),
    (src ≠ .indHl → exec (ldOf .indHl src) s = .next
      { s.busWrite s.hl (s.operand src) with cycles := s.cycles + s.time (ldOf .indHl src) 8 }) ∧
    exec (.ldIndHlD8 d8) s =
      .next { s.busWrite s.hl d8 with cycles := s.cycles + s.time (.ldIndHlD8 d8) 12 } ∧
    exec .ldIndBcA s = .next { s.busWrite s.bc s.a with cycles := s.cycles + s.time .ldIndBcA 8 } ∧
    exec .ldIndDeA s = .next { s.busWrite s.de s.a with cycles := s.cycles + s.time .ldIndDeA 8 } ∧
    exec (.ldIndA16A a16) s =
      .next { s.busWrite a16 s.a with cycles := s.cycles + s.time (.ldIndA16A a16) 16 } ∧
    exec (.ldhIndA8A a8) s = .next
      { s.busWrite (mkWord 0xFF a8) s.a with cycles := s.cycles + s.time (.ldhIndA8A a8) 12 } ∧
    exec .ldIndCA s =
      .next { s.busWrite (mkWord 0xFF s.c) s.a with cycles := s.cycles + s.time .ldIndCA 8 } ∧
    exec .ldIndHlIncA s = .next { s.busWrite s.hl s.a with
      h := hiByte (s.hl + 1), l := loByte (s.hl + 1), cycles := s.cycles + s.time .ldIndHlIncA 8 } ∧
    exec .ldIndHlDecA s = .next { s.busWrite s.hl s.a with
      h := hiByte (s.hl - 1), l := loByte (s.hl - 1), cycles := s.cycles + s.time .ldIndHlDecA 8 }

/-- R165, R166, R169, R172, R174, R177, R179: A loaded through the bus from (BC), (DE), an absolute
address, page 0xFF, and (HL) with HL stepped afterwards. -/
def Obligations.LoadAccumulator : Prop :=
  ∀ (s : State) (a16 : Word) (a8 : Byte),
    exec .ldAIndBc s = .next { s.busTouch s.bc with
      a := s.busRead s.bc, cycles := s.cycles + s.time .ldAIndBc 8 } ∧
    exec .ldAIndDe s = .next { s.busTouch s.de with
      a := s.busRead s.de, cycles := s.cycles + s.time .ldAIndDe 8 } ∧
    exec (.ldAIndA16 a16) s = .next { s.busTouch a16 with
      a := s.busRead a16, cycles := s.cycles + s.time (.ldAIndA16 a16) 16 } ∧
    exec (.ldhAIndA8 a8) s = .next { s.busTouch (mkWord 0xFF a8) with
      a := s.busRead (mkWord 0xFF a8), cycles := s.cycles + s.time (.ldhAIndA8 a8) 12 } ∧
    exec .ldAIndC s = .next { s.busTouch (mkWord 0xFF s.c) with
      a := s.busRead (mkWord 0xFF s.c), cycles := s.cycles + s.time .ldAIndC 8 } ∧
    exec .ldAIndHlInc s = .next { s.busTouch s.hl with
      a := s.busRead s.hl, h := hiByte (s.hl + 1), l := loByte (s.hl + 1)
      cycles := s.cycles + s.time .ldAIndHlInc 8 } ∧
    exec .ldAIndHlDec s = .next { s.busTouch s.hl with
      a := s.busRead s.hl, h := hiByte (s.hl - 1), l := loByte (s.hl - 1)
      cycles := s.cycles + s.time .ldAIndHlDec 8 }

/-- R190, R191, R192: the four pair loads, SP stored low byte first, SP loaded from HL. -/
def Obligations.WordLoads : Prop :=
  ∀ (s : State) (d16 : Word),
    exec (.ldBcD16 d16) s = .next { s with
      b := hiByte d16, c := loByte d16, cycles := s.cycles + s.time (.ldBcD16 d16) 12 } ∧
    exec (.ldDeD16 d16) s = .next { s with
      d := hiByte d16, e := loByte d16, cycles := s.cycles + s.time (.ldDeD16 d16) 12 } ∧
    exec (.ldHlD16 d16) s = .next { s with
      h := hiByte d16, l := loByte d16, cycles := s.cycles + s.time (.ldHlD16 d16) 12 } ∧
    exec (.ldSpD16 d16) s =
      .next { s with sp := d16, cycles := s.cycles + s.time (.ldSpD16 d16) 12 } ∧
    exec (.ldIndA16Sp d16) s = .next
      { (s.busWrite d16 (loByte s.sp)).busWrite (d16 + 1) (hiByte s.sp) with
        cycles := s.cycles + s.time (.ldIndA16Sp d16) 20 } ∧
    exec .ldSpHl s = .next { s with sp := s.hl, cycles := s.cycles + s.time .ldSpHl 8 }

/-- R193, R253: `LD HL,SP+e8` and `ADD SP,e8`. The displacement is signed, H and C are those of the
unsigned sum of the low bytes, Z and N are clear. -/
def Obligations.SpPlusDisplacement : Prop :=
  ∀ (s : State) (e8 : Byte),
    let sum : Word := s.sp + e8.signExtend 16
    let half := decide (s.sp.toNat % 16 + e8.toNat % 16 > 0x0F)
    let carry := decide (s.sp.toNat % 256 + e8.toNat > 0xFF)
    (∃ t, exec (.ldHlSpE8 e8) s = .next t ∧ FlagsAre t.f false false half carry ∧
      t = { s with
        h := hiByte sum, l := loByte sum, f := t.f, cycles := s.cycles + s.time (.ldHlSpE8 e8) 12 }) ∧
    (∃ t, exec (.addSpE8 e8) s = .next t ∧ FlagsAre t.f false false half carry ∧
      t = { s with sp := sum, f := t.f, cycles := s.cycles + s.time (.addSpE8 e8) 16 })

/-- R194 to R197: `PUSH` writes the high byte at SP - 1 and then the low byte at SP - 2; `POP` reads
the low byte at SP and then the high byte at SP + 1. `POP AF` loads F as popped; the end of the
iteration clears its low nibble (R364, `FlagsLowNibble`). -/
def Obligations.PushAndPop : Prop :=
  ∀ (s : State) (r : Reg16Stk),
    exec (pushOf r) s = .next
      { (s.busWrite (s.sp - 1) (hiByte (s.reg16Stk r))).busWrite (s.sp - 2)
          (loByte (s.reg16Stk r)) with
        sp := s.sp - 2, cycles := s.cycles + s.time (pushOf r) 16 } ∧
    (let u := s.busTouch s.sp
     let w := u.busTouch (s.sp + 1)
     let lo := s.busRead s.sp
     let hi := u.busRead (s.sp + 1)
     exec (popOf .bc) s =
       .next { w with
         b := hi, c := lo, sp := s.sp + 2, cycles := s.cycles + s.time (popOf .bc) 12 } ∧
     exec (popOf .de) s =
       .next { w with
         d := hi, e := lo, sp := s.sp + 2, cycles := s.cycles + s.time (popOf .de) 12 } ∧
     exec (popOf .hl) s =
       .next { w with
         h := hi, l := lo, sp := s.sp + 2, cycles := s.cycles + s.time (popOf .hl) 12 } ∧
     exec (popOf .af) s =
       .next { w with
         a := hi, f := lo, sp := s.sp + 2, cycles := s.cycles + s.time (popOf .af) 12 })

/-- The stack is last in, first out, where it lies in RAM: a `POP` after a `PUSH` loads the pair that
was pushed into any pair, a `RET` after a `CALL` comes back, and SP is where it was. -/
def Obligations.StackRoundTrip : Prop :=
  ∀ (s : State) (r r' : Reg16Stk) (a16 : Word), RamAddress (s.sp - 1) → RamAddress (s.sp - 2) →
    (∃ t u, exec (pushOf r) s = .next t ∧ exec (popOf r') t = .next u ∧
      u.reg16Stk r' = s.reg16Stk r ∧ u.sp = s.sp) ∧
    (∃ t u, exec (.callA16 a16) s = .next t ∧ exec .ret t = .next u ∧
      t.pc = a16 ∧ u.pc = s.pc ∧ u.sp = s.sp)

/-! ### Arithmetic and logic -/

/-- R212 to R215: `ADD` and `ADC` in all operand forms. The sum wraps; H is the carry out of bit 3, C
out of bit 7, the carry in taking part in both. -/
def Obligations.AddForms : Prop :=
  ∀ (s : State) (x : Operand8) (d8 : Byte),
    let cin := (s.f.getLsbD 4).toNat
    let n := if x = .indHl then 8 else 4
    let added := fun (t : State) (v : Byte) (c n : Nat) =>
      t.a = BitVec.ofNat 8 (s.a.toNat + v.toNat + c) ∧
      FlagsAre t.f (decide (t.a = 0)) false (decide (s.a.toNat % 16 + v.toNat % 16 + c > 15))
        (decide (s.a.toNat + v.toNat + c > 255)) ∧ AccumulatorOnly s t n
    (∃ t, exec (aluOf .add x) s = .next t ∧ 
      added t (s.operand x) 0 (s.time (aluOf .add x) n)) ∧
    (∃ t, exec (aluImmOf .add d8) s = .next t ∧ 
      added t d8 0 (s.time (aluImmOf .add d8) 8)) ∧
    (∃ t, exec (aluOf .adc x) s = .next t ∧
      added t (s.operand x) cin (s.time (aluOf .adc x) n)) ∧
    (∃ t, exec (aluImmOf .adc d8) s = .next t ∧ 
      added t d8 cin (s.time (aluImmOf .adc d8) 8))

/-- R216 to R219, R226, R227: `SUB`, `SBC` and `CP` in all operand forms. C is a borrow, H the borrow
into bit 4; `CP` sets the flags of `SUB` and leaves A. -/
def Obligations.SubtractForms : Prop :=
  ∀ (s : State) (x : Operand8) (d8 : Byte),
    let cin := (s.f.getLsbD 4).toNat
    let flags := fun (t : State) (v : Byte) (c : Nat) =>
      FlagsAre t.f (decide (s.a.toNat = (v.toNat + c) % 256)) true
        (decide (s.a.toNat % 16 < v.toNat % 16 + c)) (decide (s.a.toNat < v.toNat + c))
    let minus := fun (v : Byte) (c : Nat) => s.a - v - BitVec.ofNat 8 c
    let n := if x = .indHl then 8 else 4
    (∃ t, exec (aluOf .sub x) s = .next t ∧ t.a = minus (s.operand x) 0 ∧
      flags t (s.operand x) 0 ∧ AccumulatorOnly s t (s.time (aluOf .sub x) n)) ∧
    (∃ t, exec (aluImmOf .sub d8) s = .next t ∧ t.a = minus d8 0 ∧ flags t d8 0 ∧
      AccumulatorOnly s t (s.time (aluImmOf .sub d8) 8)) ∧
    (∃ t, exec (aluOf .sbc x) s = .next t ∧ t.a = minus (s.operand x) cin ∧
      flags t (s.operand x) cin ∧ AccumulatorOnly s t (s.time (aluOf .sbc x) n)) ∧
    (∃ t, exec (aluImmOf .sbc d8) s = .next t ∧ t.a = minus d8 cin ∧ flags t d8 cin ∧
      AccumulatorOnly s t (s.time (aluImmOf .sbc d8) 8)) ∧
    (∃ t, exec (aluOf .cp x) s = .next t ∧ t.a = s.a ∧ flags t (s.operand x) 0 ∧
      AccumulatorOnly s t (s.time (aluOf .cp x) n)) ∧
    (∃ t, exec (aluImmOf .cp d8) s = .next t ∧ t.a = s.a ∧ flags t d8 0 ∧
      AccumulatorOnly s t (s.time (aluImmOf .cp d8) 8))

/-- R220 to R225: `AND`, `XOR` and `OR` in all operand forms, bit by bit; `AND` sets H. -/
def Obligations.LogicForms : Prop :=
  ∀ (s : State) (op : AluOp) (x : Operand8) (d8 : Byte), op = .and ∨ op = .xor ∨ op = .or →
    let bit := fun (p q : Bool) =>
      if op = .and then p && q else if op = .xor then Bool.xor p q else p || q
    let done := fun (t : State) (v : Byte) (n : Nat) =>
      (∀ k, k < 8 → t.a.getLsbD k = bit (s.a.getLsbD k) (v.getLsbD k)) ∧
      FlagsAre t.f (decide (t.a = 0)) false (decide (op = .and)) false ∧ AccumulatorOnly s t n
    (∃ t, exec (aluOf op x) s = .next t ∧ 
      done t (s.operand x) (s.time (aluOf op x) (if x = .indHl then 8 else 4))) ∧
    (∃ t, exec (aluImmOf op d8) s = .next t ∧ done t d8 (s.time (aluImmOf op d8) 8))

/-- R228 to R231: `INC` and `DEC` of a byte, in a register (4 cycles) or at HL (12: one bus read, then
one bus write at the same address). C is kept. -/
def Obligations.IncDecByte : Prop :=
  ∀ (s : State) (x : Operand8),
    let v := s.operand x
    let n := if x = .indHl then 12 else 4
    (∃ t, exec (incOf x) s = .next t ∧
      OperandBecomes s t x (BitVec.ofNat 8 (v.toNat + 1)) (s.time (incOf x) n) ∧
      FlagsAre t.f (decide (v.toNat = 255)) false (decide (v.toNat % 16 = 15)) (s.f.getLsbD 4)) ∧
    (∃ t, exec (decOf x) s = .next t ∧
      OperandBecomes s t x (BitVec.ofNat 8 (v.toNat + 255)) (s.time (decOf x) n) ∧
      FlagsAre t.f (decide (v.toNat = 1)) true (decide (v.toNat % 16 = 0)) (s.f.getLsbD 4))

/-- R232 to R235: `DAA` by its correction byte, `CPL`, `SCF` and `CCF`. -/
def Obligations.AccumulatorAdjust : Prop :=
  ∀ s : State,
    let z := s.f.getLsbD 7
    let n := s.f.getLsbD 6
    let h := s.f.getLsbD 5
    let c := s.f.getLsbD 4
    let low := decide (h = true ∨ (n = false ∧ s.a.toNat % 16 > 9))
    let high := decide (c = true ∨ (n = false ∧ s.a.toNat > 0x99))
    let corr : Nat := (if low then 0x06 else 0) + (if high then 0x60 else 0)
    (∃ t, exec .daa s = .next t ∧
      t.a = (if n then s.a - BitVec.ofNat 8 corr else s.a + BitVec.ofNat 8 corr) ∧
      FlagsAre t.f (decide (t.a = 0)) n false high ∧ AccumulatorOnly s t (s.time .daa 4)) ∧
    (∃ t, exec .cpl s = .next t ∧ (∀ k, k < 8 → t.a.getLsbD k = !s.a.getLsbD k) ∧
      FlagsAre t.f z true true c ∧ AccumulatorOnly s t (s.time .cpl 4)) ∧
    (∃ t, exec .scf s = .next t ∧ t.a = s.a ∧ FlagsAre t.f z false false true ∧
      AccumulatorOnly s t (s.time .scf 4)) ∧
    (∃ t, exec .ccf s = .next t ∧ t.a = s.a ∧ FlagsAre t.f z false false (!c) ∧
      AccumulatorOnly s t (s.time .ccf 4))

/-- What R232 is for: after adding (`ADD A,d8`, R213), or subtracting (`SUB d8`, R217), two numbers in
decimal digits, `DAA` leaves the decimal digits of the result modulo 100 and C as the decimal carry or
borrow. -/
def Obligations.DecimalArithmetic : Prop :=
  ∀ (s : State) (m n : Nat), m < 100 → n < 100 → s.a = bcd m →
    (∃ t u, exec (.addAD8 (bcd n)) s = .next t ∧ exec .daa t = .next u ∧
      u.a = bcd ((m + n) % 100) ∧ u.f.getLsbD 4 = decide (100 ≤ m + n)) ∧
    (∃ t u, exec (.subD8 (bcd n)) s = .next t ∧ exec .daa t = .next u ∧
      u.a = bcd ((100 + m - n) % 100) ∧ u.f.getLsbD 4 = decide (m < n))

/-- R250, R251, R252: `ADD HL,rr` keeps Z and carries out of bits 11 and 15; `INC rr` and `DEC rr`
wrap and touch no flag. -/
def Obligations.WordArithmetic : Prop :=
  ∀ (s : State) (r : Reg16),
    let v := s.reg16 r
    let sum : Word := BitVec.ofNat 16 (s.hl.toNat + v.toNat)
    (∃ t, exec (addHlOf r) s = .next t ∧
      FlagsAre t.f (s.f.getLsbD 7) false (decide (s.hl.toNat % 4096 + v.toNat % 4096 > 0x0FFF))
        (decide (s.hl.toNat + v.toNat > 0xFFFF)) ∧
      t = { s with
        h := hiByte sum, l := loByte sum, f := t.f, cycles := s.cycles + s.time (addHlOf r) 8 }) ∧
    (∃ t, exec (inc16Of r) s = .next t ∧ t.reg16 r = BitVec.ofNat 16 (v.toNat + 1) ∧
      (∀ q, q ≠ r → t.reg16 q = s.reg16 q) ∧
      t = { s with b := t.b, c := t.c, d := t.d, e := t.e, h := t.h, l := t.l, sp := t.sp
                   cycles := s.cycles + s.time (inc16Of r) 8 }) ∧
    (∃ t, exec (dec16Of r) s = .next t ∧ t.reg16 r = BitVec.ofNat 16 (v.toNat + 65535) ∧
      (∀ q, q ≠ r → t.reg16 q = s.reg16 q) ∧
      t = { s with b := t.b, c := t.c, d := t.d, e := t.e, h := t.h, l := t.l, sp := t.sp
                   cycles := s.cycles + s.time (dec16Of r) 8 })

/-! ### Rotates, shifts, bit operations -/

/-- R261 to R264: the one-byte rotates of A, bit by bit; Z is cleared whatever the result. -/
def Obligations.RotateAccumulator : Prop :=
  ∀ s : State,
    let done := fun (t : State) (op : RotOp) (i : Instr) =>
      (∀ k, k < 8 → t.a.getLsbD k = rotBit op s.a (s.f.getLsbD 4) k) ∧
      FlagsAre t.f false false false (rotOut op s.a) ∧
      AccumulatorOnly s t (s.time i 4)
    (∃ t, exec .rlca s = .next t ∧ done t .rlc .rlca) ∧
    (∃ t, exec .rrca s = .next t ∧ done t .rrc .rrca) ∧
    (∃ t, exec .rla s = .next t ∧ done t .rl .rla) ∧
    (∃ t, exec .rra s = .next t ∧ done t .rr .rra)

/-- R265 to R272: the rotates, shifts and `SWAP` behind the prefix, on every operand, bit by bit. -/
def Obligations.RotatesAndShifts : Prop :=
  ∀ (s : State) (op : RotOp) (x : Operand8), ∃ (t : State) (r : Byte),
    exec (rotOf op x) s = .next t ∧
    (∀ k, k < 8 → r.getLsbD k = rotBit op (s.operand x) (s.f.getLsbD 4) k) ∧
    OperandBecomes s t x r (s.time (rotOf op x) (if x = .indHl then 16 else 8)) ∧
    FlagsAre t.f (decide (r = 0)) false false (rotOut op (s.operand x))

/-- R273 to R275: `BIT` reads one bit into Z and writes no operand; `RES` and `SET` change one bit and
no flag. -/
def Obligations.BitOperations : Prop :=
  ∀ (s : State) (b : Nat) (x : Operand8), b < 8 →
    let v := s.operand x
    (∃ t, exec (bitOf b x) s = .next t ∧
      FlagsAre t.f (!v.getLsbD b) false true (s.f.getLsbD 4) ∧ t.a = s.a ∧
      AccumulatorOnly s t (s.time (bitOf b x) (if x = .indHl then 12 else 8))) ∧
    (∃ (t : State) (r : Byte), exec (resOf b x) s = .next t ∧
      (∀ k, k < 8 → r.getLsbD k = if k = b then false else v.getLsbD k) ∧ t.f = s.f ∧
      OperandBecomes s t x r (s.time (resOf b x) (if x = .indHl then 16 else 8))) ∧
    (∃ (t : State) (r : Byte), exec (setOf b x) s = .next t ∧
      (∀ k, k < 8 → r.getLsbD k = if k = b then true else v.getLsbD k) ∧ t.f = s.f ∧
      OperandBecomes s t x r (s.time (setOf b x) (if x = .indHl then 16 else 8)))

/-! ### Control transfer -/

/-- R301 to R303: the absolute jumps, conditional ones taken or not. -/
def Obligations.AbsoluteJumps : Prop :=
  ∀ (s : State) (cc : Cond) (a16 : Word),
    exec (.jpA16 a16) s = .next { s with
      pc := a16, pcOverflow := false, cycles := s.cycles + s.time (.jpA16 a16) 16 } ∧
    exec (jpCcOf cc a16) s =
      .next (if holds s cc then { s with
          pc := a16, pcOverflow := false, cycles := s.cycles + s.timeTaken (jpCcOf cc a16) 16 }
        else { s with cycles := s.cycles + s.time (jpCcOf cc a16) 12 }) ∧
    exec .jpHl s = .next { s with
      pc := s.hl, pcOverflow := false, cycles := s.cycles + s.time .jpHl 4 }

/-- R304, R305: the relative jumps. PC on entry is past both bytes; the target is modulo 2^16; any jump
clears the overflow mark (D11), and under the policy `fault` a sum outside 0..0xFFFF sets it (R23). -/
def Obligations.RelativeJumps : Prop :=
  ∀ (s : State) (cc : Cond) (e8 : Byte),
    let target : Int := (s.pc.toNat : Int) + e8.toInt
    let outside : Prop := target < 0 ∨ 0xFFFF < target
    let taken := fun (n : Nat) => ({ s with
      pc := BitVec.ofInt 16 target
      pcOverflow := decide (s.cfg.pcOverflowPolicy = .fault ∧ outside)
      cycles := s.cycles + n } : State)
    exec (.jrE8 e8) s = .next (taken (s.time (.jrE8 e8) 12)) ∧
    exec (jrCcOf cc e8) s = .next (if holds s cc then taken (s.timeTaken (jrCcOf cc e8) 12)
      else { s with cycles := s.cycles + s.time (jrCcOf cc e8) 8 })

/-- R306, R307, R311: `CALL`, `CALL cc` and `RST`: PC pushed, high byte first, then loaded. R308 to R310:
`RET`, `RET cc` and `RETI`, which sets IME at once and leaves `pendingIE`. -/
def Obligations.CallsAndReturns : Prop :=
  ∀ (s : State) (cc : Cond) (a16 : Word) (y : Nat), y < 8 →
    let called := fun (target : Word) (n : Nat) =>
      { (s.busWrite (s.sp - 1) (hiByte s.pc)).busWrite (s.sp - 2) (loByte s.pc) with
        sp := s.sp - 2, pc := target, pcOverflow := false, cycles := s.cycles + n }
    let u := s.busTouch s.sp
    let returned := fun (ime : Bool) (n : Nat) =>
      { u.busTouch (s.sp + 1) with
        pc := mkWord (u.busRead (s.sp + 1)) (s.busRead s.sp)
        sp := s.sp + 2, pcOverflow := false, ime := ime, cycles := s.cycles + n }
    exec (.callA16 a16) s = .next (called a16 (s.time (.callA16 a16) 24)) ∧
    exec (callCcOf cc a16) s =
      .next (if holds s cc then called a16 (s.timeTaken (callCcOf cc a16) 24)
        else { s with cycles := s.cycles + s.time (callCcOf cc a16) 12 }) ∧
    exec (rstOf y) s = .next (called (BitVec.ofNat 16 (8 * y)) (s.time (rstOf y) 16)) ∧
    exec .ret s = .next (returned s.ime (s.time .ret 16)) ∧
    exec (retCcOf cc) s =
      .next (if holds s cc then returned s.ime (s.timeTaken (retCcOf cc) 20)
        else { s with cycles := s.cycles + s.time (retCcOf cc) 8 }) ∧
    exec .reti s = .next (returned true (s.time .reti 16))

/-! ### System instructions -/

/-- R331, R332, R334, R335 (its execute part): `NOP`, `HALT`, `DI`, `EI`. R333 and R337: `STOP` under each
policy, and the illegal opcodes, which record the byte and the address it was fetched from and add no
cycles. That a stop is a next state whose `run` is stopped is the model's form (log entry 14). -/
def Obligations.SystemInstructions : Prop :=
  ∀ (s : State) (pad op : Byte),
    exec .nop s = .next { s with cycles := s.cycles + s.time .nop 4 } ∧
    exec .halt s = .next { s with halted := true, cycles := s.cycles + s.time .halt 4 } ∧
    exec .di s = .next { s with
      ime := false, pendingIE := false, cycles := s.cycles + s.time .di 4 } ∧
    exec .ei s = .next { s with pendingIE := true, cycles := s.cycles + s.time .ei 4 } ∧
    exec (.stop pad) s = .next (match s.cfg.stopPolicy with
      | .stuck => { s with
          cycles := s.cycles + s.time (.stop pad) 4, run := .stopped .stopInstruction }
      | .nop => { s with cycles := s.cycles + s.time (.stop pad) 4 }
      | .fault => { s with run := .stopped (.unknownOpcode 0x10 (s.pc - 2)) }) ∧
    exec (.illegal op) s = .next { s with run := .stopped (.unknownOpcode op (s.pc - 1)) }

/-- The frame of every instruction over memory and devices: a byte of the array that none of the
instruction's stores (`storeAddrs`) can change reads as before; the ROM, the parameters and the PPU are as
they were; the controller's registers and the signals change only by a store below 0x8000, the external
RAM only by one in 0xA000-0xBFFF, DIV's sub-counter only by one at 0xFF04, the APU only by one in
0xFF10-0xFF3F. An instruction that stores nothing changes no byte (R64, R66, R71, R171). -/
def Obligations.MemoryFrame : Prop :=
  ∀ (i : Instr) (s t : State), exec i s = .next t →
    (∀ n, (∀ a ∈ storeAddrs i s, ¬ storedBytes a n) → t.peek n = s.peek n) ∧
    (t.rom = s.rom ∧ t.cfg = s.cfg ∧ t.ppu = s.ppu ∧ t.vblank = s.vblank ∧
      t.mbc.kind = s.mbc.kind ∧ t.extRam.size = s.extRam.size ∧
      t.timer.timaSub = s.timer.timaSub) ∧
    ((∀ a ∈ storeAddrs i s, 0x8000 ≤ a.toNat) → t.mbc = s.mbc ∧ t.signals = s.signals) ∧
    ((∀ a ∈ storeAddrs i s, a.toNat < 0xA000 ∨ 0xBFFF < a.toNat) → t.extRam = s.extRam) ∧
    ((∀ a ∈ storeAddrs i s, a.toNat ≠ 0xFF04) → t.timer = s.timer) ∧
    ((∀ a ∈ storeAddrs i s, a.toNat < 0xFF10 ∨ 0xFF3F < a.toNat) → t.apu = s.apu) ∧
    (storeAddrs i s = [] → t.mem = s.mem ∧ SameDevices s t)

/-- Only `HALT` halts, only `DI`, `EI` and `RETI` touch the interrupt flags, only `STOP` and the
illegal opcodes leave a running core stopped, and no execute part touches the wake penalty (R27 to R31). -/
def Obligations.ControlStateWriters : Prop :=
  ∀ (i : Instr) (s t : State), exec i s = .next t →
    (i ≠ .halt → t.halted = s.halted) ∧
    (i ≠ .di → i ≠ .reti → t.ime = s.ime) ∧
    (i ≠ .di → i ≠ .ei → t.pendingIE = s.pendingIE) ∧
    ((∀ pad, i ≠ .stop pad) → (∀ op, i ≠ .illegal op) → t.run = s.run) ∧
    t.wakePenalty = s.wakePenalty

/-! ### The iteration -/

/-- A step of a live core that takes no interrupt and is not halted runs the instruction the bytes at
PC decode to in this core, wherever they can be fetched (under the policy `wrap` also past 0xFFFF): on
the state their fetch leaves (PC past them), and with what R364 and R365 put after it: F's low nibble
cleared, the wake penalty paid, the pending enable promoted, the devices fed with the cycles added;
after a fatal fault (a stop that is not `STOP`'s) none of these (R352). The devices are the PPU, the timer
and the APU, in this order, each fed the same cycles (R365). That all of this follows `STOP` under the
policy `stuck` too is the model's reading (log entry 15). -/
def Obligations.StepRunsDecoded : Prop :=
  (∀ (s : State) (n : Nat),
    s.feedDevices n = ((s.ppuUpdate n).timerUpdate n).apuUpdate n ∧
    (s.faulted = true ↔ s.run ≠ .running ∧ s.run ≠ .stopped .stopInstruction)) ∧
  (∀ s : State, s.Live → s.takesInterrupt = false → s.halted = false →
    let s1 := s.busTouch s.pc
    let s2 := s1.busTouch (s.pc + 1)
    let s3 := s2.busTouch (s.pc + 2)
    let b0 := s.busRead s.pc
    let b1 := s1.busRead (s.pc + 1)
    let b2 := s2.busRead (s.pc + 2)
    let n := s.cfg.instrLength b0
    let i := s.cfg.decode b0 (if 2 ≤ n then b1 else 0) (if n = 3 then b2 else 0)
    let u : State := { (if n = 1 then s1 else if n = 2 then s2 else s3) with
      pc := s.pc + BitVec.ofNat 16 n
      pcOverflow := s.pcOverflow ||
        decide (s.cfg.pcOverflowPolicy = .fault ∧ s.pc.toNat + n = 0x10000) }
    s.cfg.pcOverflowPolicy = .wrap ∨ (s.pcOverflow = false ∧ s.pc.toNat + n ≤ 0x10000) →
    (∀ k, k < n → (s.pc + BitVec.ofNat 16 k).toNat < 0x8000 →
      s.romInRange (s.pc + BitVec.ofNat 16 k) = true) →
    s.fetchInstr = .ok i u ∧
    step s = (match exec i u with
      | .next t => .next (if t.faulted then t else
          let p : State := { t with
            f := t.f &&& 0xF0
            cycles := t.cycles + if t.wakePenalty then t.cfg.haltWakePenalty else 0
            wakePenalty := false
            ime := t.ime || (s.pendingIE && t.pendingIE)
            pendingIE := t.pendingIE && !(s.pendingIE && t.pendingIE) }
          p.feedDevices (p.cycles - s.cycles))
      | .fault r => .fault r
      | .refused r => .refused r))

/-- R361, R362, R372: an interrupt is taken at the top of an iteration exactly when IME is set, no enable is
pending and a request is enabled (R28: never with IME clear). A live core then takes the lowest-numbered
one: PC pushed, its IF bit cleared by a bus write, IME off, PC at its vector, 20 cycles, the devices fed
with them; no instruction runs. -/
def Obligations.InterruptDispatch : Prop :=
  (∀ s : State, s.takesInterrupt = true ↔
    s.ime = true ∧ s.pendingIE = false ∧
      s.peek s.cfg.ifAddr.toNat &&& s.peek 0xFFFF &&& 0x1F ≠ 0) ∧
  (∀ (s : State) (i : Nat), s.Live → s.ime = true → s.pendingIE = false → i < 5 →
    (s.peek s.cfg.ifAddr.toNat &&& s.peek 0xFFFF).getLsbD i = true →
    (∀ j, j < i → (s.peek s.cfg.ifAddr.toNat &&& s.peek 0xFFFF).getLsbD j = false) →
    let pushed := (s.busWrite (s.sp - 1) (hiByte s.pc)).busWrite (s.sp - 2) (loByte s.pc)
    let cleared := pushed.busWrite s.cfg.ifAddr
      (pushed.peek s.cfg.ifAddr.toNat &&& ~~~(1#8 <<< i))
    let taken : State := { cleared with
      halted := false, ime := false, sp := s.sp - 2
      pc := BitVec.ofNat 16 (0x40 + 8 * i), pcOverflow := false, cycles := s.cycles + 20 }
    step s = .next (taken.feedDevices 20))

/-- R363: the halted tick: four cycles; with no request the core stays halted; with one it wakes, pays
the penalty at its next instruction, and with IME off has PC backed up by one. No IF bit changes. That
the overflow mark stays as it was is the model's reading (log entry 10). -/
def Obligations.HaltedTick : Prop :=
  ∀ s : State, s.Live → s.halted = true → s.takesInterrupt = false →
    let pend := s.peek s.cfg.ifAddr.toNat &&& s.peek 0xFFFF &&& 0x1F
    let awake : State := { s with
      cycles := s.cycles + 4, halted := false, wakePenalty := true
      pc := if s.ime then s.pc else s.pc - 1 }
    step s = .next ((if pend = 0 then { s with cycles := s.cycles + 4 } else awake).feedDevices 4)

/-- R335, R364: `EI` sets the pending enable and leaves IME; while it is pending no interrupt is taken;
the instruction after `EI` ends with IME set and nothing pending, unless it is `DI`, which leaves both
clear. The case of an enable that was pending covers `STOP` under the policy `stuck` too, whose iteration
is completed by the model's reading (log entry 15). -/
def Obligations.EnableDelay : Prop :=
  ∀ (s u t : State) (i : Instr), s.Live → s.takesInterrupt = false → s.halted = false →
    s.fetchInstr = .ok i u → step s = .next t → t.faulted = false →
    (i = .ei → s.pendingIE = false →
      t.ime = s.ime ∧ t.pendingIE = true ∧ t.takesInterrupt = false) ∧
    (s.pendingIE = true → i ≠ .di → t.ime = true ∧ t.pendingIE = false) ∧
    (i = .di → t.ime = false ∧ t.pendingIE = false)

/-- R23, R99, R350, R352: a fetch that fails stops a live core with its reason; the bytes of the
instruction fetched before it stay fetched (PC is past them) and nothing else happens. `j` is how many
were: with the policy `fault` and the mark set, before the first byte or by the byte at 0xFFFF, the core
stops with `PcOutOfRange`; past the end of the image it stops with `FetchOutOfRange` of that byte's
address. The byte at 0xFFFF is still fetched, and PC goes on to 0x0000 with the mark. -/
def Obligations.FetchFaults : Prop :=
  ∀ s : State, s.Live → s.takesInterrupt = false → s.halted = false →
    let addr := fun (j : Nat) => s.pc + BitVec.ofNat 16 j
    (∀ j, j < s.cfg.instrLength (s.busRead s.pc) → s.cfg.pcOverflowPolicy = .fault →
      (j = 0 ∧ s.pcOverflow = true ∨ s.pcOverflow = false ∧ s.pc.toNat + j = 0x10000) →
      step s = .next { s with pc := addr j, pcOverflow := true, run := .stopped .pcOutOfRange }) ∧
    (∀ j, j < s.cfg.instrLength (s.busRead s.pc) →
      (s.cfg.pcOverflowPolicy = .wrap ∨ s.pcOverflow = false ∧ s.pc.toNat + j ≤ 0xFFFF) →
      (∀ k, k < j → (addr k).toNat < 0x8000 → s.romInRange (addr k) = true) →
      (addr j).toNat < 0x8000 → s.romInRange (addr j) = false →
      step s = .next { s with pc := addr j, run := .stopped (.fetchOutOfRange (addr j)) }) ∧
    (s.pcOverflow = false → s.pc = 0xFFFF → s.fetch8 = .ok (s.peek 0xFFFF) { s with
      pc := 0x0000, pcOverflow := decide (s.cfg.pcOverflowPolicy = .fault) })

/-- R31, R350, R396: a stopped core makes no further iteration; the step answers the fault that names
why it stopped. That this is a fault of the step is the model's form (log entry 14). -/
def Obligations.StoppedCore : Prop :=
  ∀ (s : State) (op : Byte) (a : Word),
    (s.run = .stopped (.unknownOpcode op a) → step s = .fault (.unknownOpcode op a)) ∧
    (s.run = .stopped (.fetchOutOfRange a) → step s = .fault (.fetchOutOfRange a)) ∧
    (s.run = .stopped .pcOutOfRange → step s = .fault .pcOutOfRange) ∧
    (s.run = .stopped .stopInstruction → step s = .fault .stopInstruction)

/-- A live core always has a next state, whatever the other state and whatever the bytes at PC: no
instruction and no data stop a step (R354). What no step changes: the ROM (R105), the parameters, the
controller's kind and the size of its RAM. -/
def Obligations.LiveCoreSteps : Prop :=
  ∀ s : State, s.Live → ∃ t, step s = .next t ∧ t.rom = s.rom ∧ t.cfg = s.cfg ∧
    t.mbc.kind = s.mbc.kind ∧ t.extRam.size = s.extRam.size

/-- R24: after every executed instruction F's low nibble is zero, from every state at all. -/
def Obligations.FlagsLowNibble : Prop :=
  ∀ s t : State, s.takesInterrupt = false → s.halted = false → step s = .next t →
    t.faulted = false → t.f &&& 0x0F = 0

/-- Every step keeps the invariant, from every state that has it. -/
def Obligations.StepKeepsInv : Prop :=
  ∀ s t : State, Inv s → step s = .next t → Inv t

/-- The invariant holds at reset. -/
def Obligations.ResetInv : Prop := Inv State.reset

/-- R541: from a core that goes round a `HALT` with interrupts off and a request pending every step
leads to such a core again: PC never passes the `HALT`. -/
def Obligations.HaltLoopForever : Prop :=
  ∀ (h : Word) (s : State), HaltLoop h s → ∃ t, step s = .next t ∧ HaltLoop h t

/-! ### Devices -/

/-- R380, R381, R382: DIV counts one for every 256 cycles, and TIMA, where TAC enables it, one for every
period: `counts` of them, for any number of cycles. Within 0xFF it has gone up by them; past it, it has
been reloaded from TMA at each overflow, and IF bit 2 is set. No other byte changes. -/
def Obligations.TimerUpdate : Prop :=
  ∀ (s : State) (delta : Nat), s.cfg.Ok →
    let t := s.timerUpdate delta
    let tac := s.peek 0xFF07
    let period := ([1024, 16, 64, 256] : List Nat).getD (tac.toNat % 4) 0
    let counts := (s.timer.timaSub + delta) / period
    let tima := (s.peek 0xFF05).toNat
    let tma := (s.peek 0xFF06).toNat
    let f := s.cfg.ifAddr.toNat
    t = { s with mem := t.mem, timer := t.timer } ∧
    t.peek 0xFF04 = BitVec.ofNat 8 ((s.peek 0xFF04).toNat + (s.timer.divSub + delta) / 256) ∧
    t.timer.divSub = (s.timer.divSub + delta) % 256 ∧
    (∀ n, n ≠ 0xFF04 → n ≠ 0xFF05 → n ≠ f → t.peek n = s.peek n) ∧
    (tac.getLsbD 2 = false → t.timer.timaSub = s.timer.timaSub ∧
      t.peek 0xFF05 = s.peek 0xFF05 ∧ t.peek f = s.peek f) ∧
    (tac.getLsbD 2 = true → t.timer.timaSub = (s.timer.timaSub + delta) % period ∧
      (tima + counts < 256 →
        t.peek 0xFF05 = BitVec.ofNat 8 (tima + counts) ∧ t.peek f = s.peek f) ∧
      (256 ≤ tima + counts →
        t.peek 0xFF05 = BitVec.ofNat 8 (tma + (tima + counts - 256) % (256 - tma)) ∧
        t.peek f = s.peek f ||| 0x04))

/-- R430, R431, R433, R436, R440: with the LCD on, the PPU's place in its frame of 70,224 cycles moves on by
exactly the cycles fed, however they are sliced, and `update` answers true exactly when the start of
line 144 is passed; then, and only then, interrupt 0 is requested. It gets there by the transitions that
fall due, one after the other, each doing what R430 says. An update changes no byte but STAT bits 2:0, LY
and IF, and of IF it only sets bits 0 and 1. With the LCD off nothing at all happens. -/
def Obligations.PpuTiming : Prop :=
  (∀ (s : State) (delta : Nat),
    let t := s.ppuUpdate delta
    let f := s.cfg.ifAddr.toNat
    let due : Nat := match s.ppu.mode with
      | .oamScan => 80
      | .transfer => 172
      | .hblank => 204
      | .vblank => 456
    let atEnd := { s with ppu := { s.ppu with modeClock := due }, vblank := false }.leaveMode
    let rest := atEnd.ppuUpdate (s.ppu.modeClock + delta - due)
    ((s.peek 0xFF40).getLsbD 7 = true → PpuOk s.ppu →
      t.ppu.framePos = (s.ppu.framePos + delta) % 70224 ∧
      PpuOk t.ppu ∧
      (t.vblank = true ↔
        ∃ m, s.ppu.framePos < 65664 + 70224 * m ∧ 65664 + 70224 * m ≤ s.ppu.framePos + delta) ∧
      t = { s with mem := t.mem, ppu := t.ppu, vblank := t.vblank }) ∧
    ((s.peek 0xFF40).getLsbD 7 = true → s.ppu.modeClock + delta < due →
      t = { s with
        ppu := { s.ppu with modeClock := s.ppu.modeClock + delta }, vblank := false }) ∧
    ((s.peek 0xFF40).getLsbD 7 = true → PpuOk s.ppu → s.cfg.Ok → due ≤ s.ppu.modeClock + delta →
      t = { rest with vblank := atEnd.vblank || rest.vblank }) ∧
    ((s.peek 0xFF40).getLsbD 7 = true → PpuOk s.ppu → s.cfg.Ok →
      (∀ n, n ≠ 0xFF41 → n ≠ 0xFF44 → n ≠ f → t.peek n = s.peek n) ∧
      (∀ k, 3 ≤ k → (t.peek 0xFF41).getLsbD k = (s.peek 0xFF41).getLsbD k) ∧
      (t.peek f).getLsbD 0 = ((s.peek f).getLsbD 0 || t.vblank) ∧
      ((s.peek f).getLsbD 1 = true → (t.peek f).getLsbD 1 = true) ∧
      (∀ k, 2 ≤ k → (t.peek f).getLsbD k = (s.peek f).getLsbD k)) ∧
    ((s.peek 0xFF40).getLsbD 7 = false → t = { s with vblank := false })) ∧
  (∀ (s : State),
    let less := fun (n : Nat) =>
      ({ s with ppu := { s.ppu with modeClock := s.ppu.modeClock - n } } : State)
    (s.ppu.mode = .oamScan → s.leaveMode = (less 80).scanLine.setMode .transfer) ∧
    (s.ppu.mode = .transfer → s.leaveMode = (less 172).renderLine.setMode .hblank) ∧
    (s.ppu.mode = .hblank → s.ppu.line ≠ 143 →
      s.leaveMode = ((less 204).setLine (s.ppu.line + 1)).setMode .oamScan) ∧
    (s.ppu.mode = .hblank → s.ppu.line = 143 →
      s.leaveMode =
        { ((((less 204).setLine 144).setMode .vblank).requestInterrupt 0).drawWindow with
          vblank := true }) ∧
    (s.ppu.mode = .vblank → s.ppu.line ≠ 153 →
      s.leaveMode = (less 456).setLine (s.ppu.line + 1)) ∧
    (s.ppu.mode = .vblank → s.ppu.line = 153 →
      s.leaveMode = ((less 456).setLine 0).setMode .oamScan))

/-- R432, R434, R435: entering a mode writes STAT[1:0] and LY and requests interrupt 1 where STAT
enables it; a new line writes LY and the coincidence bit, and requests interrupt 1 where STAT[6] does. -/
def Obligations.StatAndLine : Prop :=
  ∀ (s : State) (m : PpuMode) (n : Nat), s.cfg.Ok →
    let f := s.cfg.ifAddr.toNat
    let asked := match m with
      | .hblank => (s.peek 0xFF41).getLsbD 3
      | .vblank => (s.peek 0xFF41).getLsbD 4
      | .oamScan => (s.peek 0xFF41).getLsbD 5
      | .transfer => false
    let code : Nat := match m with
      | .hblank => 0
      | .vblank => 1
      | .oamScan => 2
      | .transfer => 3
    let t := s.setMode m
    let u := s.setLine n
    let equal := decide (n = (s.peek 0xFF45).toNat)
    t.ppu = { s.ppu with mode := m } ∧
    t.peek 0xFF41 = BitVec.ofNat 8 ((s.peek 0xFF41).toNat / 4 * 4 + code) ∧
    t.peek 0xFF44 = BitVec.ofNat 8 s.ppu.line ∧
    t.peek f = (if asked then s.peek f ||| 0x02 else s.peek f) ∧
    (∀ k, k ≠ 0xFF41 → k ≠ 0xFF44 → k ≠ f → t.peek k = s.peek k) ∧
    u.ppu = { s.ppu with line := n } ∧
    u.peek 0xFF44 = BitVec.ofNat 8 n ∧
    (u.peek 0xFF41).getLsbD 2 = equal ∧
    (∀ k, k ≠ 2 → (u.peek 0xFF41).getLsbD k = (s.peek 0xFF41).getLsbD k) ∧
    u.peek f =
      (if equal && (s.peek 0xFF41).getLsbD 6 then s.peek f ||| 0x02 else s.peek f) ∧
    (∀ k, k ≠ 0xFF41 → k ≠ 0xFF44 → k ≠ f → u.peek k = s.peek k)

/-- R445 to R448 with R424 to R426: what the PPU composes. The background line and its shades, pixel by
pixel; over them, in each column, the first sprite of the cache that is opaque there, shown unless it is
behind a background pixel; the cache as OAM gives it for a line; the window over the finished frame; and
when each is done. A row outside its tile, left by a change of OAM or LCDC between modes 2 and 3, is
computed modulo 2^16 (log entry 23). -/
def Obligations.Composition : Prop :=
  ∀ (s : State) (x y : Nat), x < 160 → y < 144 → PpuOk s.ppu →
    let lcdc := s.peek 0xFF40
    let ly := s.ppu.line
    let bit := fun (n : Int) (k : Nat) => ((s.peek (n % 65536).toNat).getLsbD k).toNat
    let pixelOf := fun (tile row : Int) (col : Nat) =>
      2 * bit (tile + 2 * row + 1) (7 - col) + bit (tile + 2 * row) (7 - col)
    let shadeOf := fun (pal : Nat) (idx : Nat) => BitVec.ofNat 2 ((s.peek pal).toNat / 4 ^ idx)
    let tileOf := fun (t : Byte) =>
      if lcdc.getLsbD 4 then 0x8000 + 16 * (t.toNat : Int) else 0x9000 + 16 * t.toInt
    let mapped := fun (select : Bool) (py px : Nat) =>
      pixelOf (tileOf (s.peek ((if select then 0x9C00 else 0x9800) + 32 * (py / 8) + px / 8)))
        (py % 8 : Nat) (px % 8)
    let oam := fun (n k : Nat) => (s.peek (0xFE00 + 4 * n + k)).toNat
    let height : Nat := if lcdc.getLsbD 2 then 16 else 8
    let shows := fun (n : Nat) =>
      let row : Int := (ly : Int) - ((oam n 0 : Int) - 16)
      let flipped : Int := if (oam n 3).testBit 6 then height - 1 - row else row
      let col := x + 8 - oam n 1
      if oam n 1 ≤ x + 8 ∧ x < oam n 1 then
        pixelOf (0x8000 + 16 * ((if height = 16 then oam n 2 / 2 * 2 else oam n 2 : Nat) : Int)) flipped
          (if (oam n 3).testBit 5 then 7 - col else col)
      else 0
    let shown := fun (t : State) (y x : Nat) => (t.ppu.fb.getD y []).getD x 0
    let bg := if lcdc.getLsbD 0 then
      mapped (lcdc.getLsbD 3) ((ly + (s.peek 0xFF42).toNat) % 256) ((x + (s.peek 0xFF43).toNat) % 256)
      else 0
    let under := if lcdc.getLsbD 0 then shadeOf 0xFF47 bg else 0
    let r := s.renderLine
    let w := s.drawWindow
    let kept := ((List.range 40).filter fun n =>
      decide (oam n 0 ≤ ly + 16 ∧ ly + 16 < oam n 0 + height ∧ oam n 1 ≤ 168)).take 10
    r = { s with ppu := { s.ppu with bgIdx := r.ppu.bgIdx, fb := r.ppu.fb } } ∧
    (r.ppu.bgIdx.getD x 0).toNat = bg ∧
    (y ≠ ly → shown r y x = shown s y x) ∧
    (ly < 144 → (lcdc.getLsbD 1 = false ∨ ∀ n ∈ s.ppu.sprites, shows n = 0) →
      shown r ly x = under) ∧
    (ly < 144 → lcdc.getLsbD 1 = true → ∀ before n after, s.ppu.sprites = before ++ n :: after →
      (∀ m ∈ before, shows m = 0) → shows n ≠ 0 →
      shown r ly x = if (oam n 3).testBit 7 ∧ bg ≠ 0 then under
        else shadeOf (if (oam n 3).testBit 4 then 0xFF49 else 0xFF48) (shows n)) ∧
    s.scanLine = { s with ppu := { s.ppu with sprites := s.scanLine.ppu.sprites } } ∧
    s.scanLine.ppu.sprites.Perm kept ∧
    s.scanLine.ppu.sprites.Pairwise
      (fun m n => oam m 1 < oam n 1 ∨ (oam m 1 = oam n 1 ∧ m < n)) ∧
    w = { s with ppu := { s.ppu with fb := w.ppu.fb } } ∧
    shown w y x =
      (if lcdc.getLsbD 5 = true ∧ (s.peek 0xFF4A).toNat ≤ y ∧ (s.peek 0xFF4B).toNat ≤ x + 7 then
        shadeOf 0xFF47 (mapped (lcdc.getLsbD 6) (y - (s.peek 0xFF4A).toNat)
          (x + 7 - (s.peek 0xFF4B).toNat))
      else shown s y x) ∧
    (s.ppu.mode = .oamScan → s.leaveMode.ppu.sprites = s.scanLine.ppu.sprites ∧
      s.leaveMode.ppu.fb = s.ppu.fb) ∧
    (s.ppu.mode = .transfer →
      s.leaveMode.ppu.fb = r.ppu.fb ∧ s.leaveMode.ppu.bgIdx = r.ppu.bgIdx) ∧
    (s.cfg.Ok → s.ppu.mode = .hblank →
      s.leaveMode.ppu.fb = if ly = 143 then w.ppu.fb else s.ppu.fb) ∧
    (s.ppu.mode = .vblank → s.leaveMode.ppu.fb = s.ppu.fb)

/-- R471 (NR52) and R473 (stores while off): switching the power off zeroes the registers and every enable,
length, timer, volume and frequency of the channels, wave RAM survives; switching it on starts afresh;
asking for what it is already changes NR52's byte alone. NR52 keeps bit 7 alone. While the power is off a
store to a register leaves zero there, and a store to wave RAM (or to the bytes before it) is kept as
ever. That power on restarts the sequencer's cycle counter too is the model's reading (log entry 7). -/
def Obligations.ApuPower : Prop :=
  ∀ (s : State) (v : Byte) (a : Word),
    let t := s.busWrite 0xFF26 v
    let u := s.apu
    (t.peek 0xFF26 = if v.getLsbD 7 then 0x80 else 0) ∧
    t.apu.power = v.getLsbD 7 ∧
    (∀ n, 0xFF27 ≤ n ∨ n < 0xFF10 → t.peek n = s.peek n) ∧
    (u.power = true → v.getLsbD 7 = false →
      (∀ n, 0xFF10 ≤ n → n ≤ 0xFF25 → t.peek n = 0) ∧ t.apu.status = 0 ∧
      t.apu = { u with
        power := false
        ch1 := { Pulse.reset with lenEn := u.ch1.lenEn, dutyPos := u.ch1.dutyPos }
        ch2 := { Pulse.reset with lenEn := u.ch2.lenEn, dutyPos := u.ch2.dutyPos }
        ch3 := { Wave.reset with lenEn := u.ch3.lenEn, wavePos := u.ch3.wavePos }
        ch4 := { Noise.reset with lenEn := u.ch4.lenEn, lfsr := u.ch4.lfsr }
        shadow := 0, sweepTimer := 0 }) ∧
    (u.power = false → v.getLsbD 7 = true →
      (∀ n, n ≠ 0xFF26 → t.peek n = s.peek n) ∧ t.apu = { Apu.reset with power := true }) ∧
    (u.power = v.getLsbD 7 → (∀ n, n ≠ 0xFF26 → t.peek n = s.peek n) ∧ t.apu = u) ∧
    (u.power = false → 0xFF10 ≤ a.toNat → a.toNat ≤ 0xFF25 →
      (∀ n, (s.busWrite a v).peek n = if n = a.toNat then 0 else s.peek n) ∧
      (s.busWrite a v).apu = u) ∧
    (u.power = false → 0xFF27 ≤ a.toNat → a.toNat ≤ 0xFF3F →
      (∀ n, (s.busWrite a v).peek n = if n = a.toNat then v else s.peek n) ∧
      (s.busWrite a v).apu = u)

/-- R473, R485: what a store to each register of the APU but NR52 does with the power on: the byte is kept
in the array, a length register loads its counter, a DAC switched off silences its channel, the
frequency and the length enable follow their registers, and bit 7 of a control register triggers the
channel. The other registers and wave RAM are memory alone. -/
def Obligations.ApuStores : Prop :=
  ∀ (s : State) (v : Byte), s.apu.power = true →
    let u := s.apu
    let after := fun (a : Word) => (s.busWrite a v).apu
    let reg := fun (n : Nat) => (s.peek n).toNat
    let on := fun (n : Nat) => decide (8 ≤ n)
    let low := fun (f : BitVec 11) => BitVec.ofNat 11 (f.toNat / 256 * 256 + v.toNat)
    let high := fun (f : BitVec 11) => BitVec.ofNat 11 (256 * (v.toNat % 8) + f.toNat % 256)
    let f1 := high u.ch1.freq
    let f2 := high u.ch2.freq
    let f3 := high u.ch3.freq
    let en := v.getLsbD 6
    (∀ a : Word, 0xFF10 ≤ a.toNat → a.toNat ≤ 0xFF3F → a.toNat ≠ 0xFF26 →
      ∀ n, (s.busWrite a v).peek n = if n = a.toNat then v else s.peek n) ∧
    (after 0xFF11 = { u with ch1 := { u.ch1 with length := 64 - v.toNat % 64 } } ∧
      after 0xFF16 = { u with ch2 := { u.ch2 with length := 64 - v.toNat % 64 } } ∧
      after 0xFF1B = { u with ch3 := { u.ch3 with length := 256 - v.toNat } } ∧
      after 0xFF20 = { u with ch4 := { u.ch4 with length := 64 - v.toNat % 64 } }) ∧
    (after 0xFF12 = { u with ch1 := { u.ch1 with enabled := u.ch1.enabled && on v.toNat } } ∧
      after 0xFF17 = { u with ch2 := { u.ch2 with enabled := u.ch2.enabled && on v.toNat } } ∧
      after 0xFF1A = { u with ch3 := { u.ch3 with enabled := u.ch3.enabled && v.getLsbD 7 } } ∧
      after 0xFF21 = { u with ch4 := { u.ch4 with enabled := u.ch4.enabled && on v.toNat } }) ∧
    (after 0xFF13 = { u with ch1 := { u.ch1 with freq := low u.ch1.freq } } ∧
      after 0xFF18 = { u with ch2 := { u.ch2 with freq := low u.ch2.freq } } ∧
      after 0xFF1D = { u with ch3 := { u.ch3 with freq := low u.ch3.freq } }) ∧
    (∀ a : Word, a.toNat ∈ [0xFF10, 0xFF15, 0xFF1C, 0xFF1F, 0xFF22, 0xFF24, 0xFF25] ∨
      (0xFF27 ≤ a.toNat ∧ a.toNat ≤ 0xFF3F) → after a = u) ∧
    (v.getLsbD 7 = false →
      after 0xFF14 = { u with ch1 := { u.ch1 with lenEn := en, freq := f1 } } ∧
      after 0xFF19 = { u with ch2 := { u.ch2 with lenEn := en, freq := f2 } } ∧
      after 0xFF1E = { u with ch3 := { u.ch3 with lenEn := en, freq := f3 } } ∧
      after 0xFF23 = { u with ch4 := { u.ch4 with lenEn := en } }) ∧
    (v.getLsbD 7 = true →
      after 0xFF14 = { u with
        ch1 := { u.ch1 with
          lenEn := en, freq := f1, enabled := on (reg 0xFF12)
          length := if u.ch1.length = 0 then 64 else u.ch1.length
          envTimer := BitVec.ofNat 3 (reg 0xFF12), vol := BitVec.ofNat 4 (reg 0xFF12 / 16)
          freqTimer := (2048 - f1.toNat) * 4 }
        shadow := f1, sweepTimer := BitVec.ofNat 3 (reg 0xFF10 / 16) } ∧
      after 0xFF19 = { u with ch2 := { u.ch2 with
        lenEn := en, freq := f2, enabled := on (reg 0xFF17)
        length := if u.ch2.length = 0 then 64 else u.ch2.length
        envTimer := BitVec.ofNat 3 (reg 0xFF17), vol := BitVec.ofNat 4 (reg 0xFF17 / 16)
        freqTimer := (2048 - f2.toNat) * 4 } } ∧
      after 0xFF1E = { u with ch3 := { u.ch3 with
        lenEn := en, freq := f3, enabled := (s.peek 0xFF1A).getLsbD 7
        length := if u.ch3.length = 0 then 256 else u.ch3.length
        wavePos := 0, freqTimer := (2048 - f3.toNat) * 2 } } ∧
      after 0xFF23 = { u with ch4 := { u.ch4 with
        lenEn := en, enabled := on (reg 0xFF21)
        length := if u.ch4.length = 0 then 64 else u.ch4.length
        envTimer := BitVec.ofNat 3 (reg 0xFF21), vol := BitVec.ofNat 4 (reg 0xFF21 / 16), lfsr := 0x7FFF
        freqTimer := ([8, 16, 32, 48, 64, 80, 96, 112] : List Nat).getD (reg 0xFF22 % 8) 0 *
          2 ^ (reg 0xFF22 / 16) } })

/-- R480 to R484, R512: with the power on an update advances the waveform timers and then makes one step of
the frame sequencer for every 8,192 cycles; with it off it does nothing. What advancing the waveform
timers does is `Waveforms` (log entry 9). A step clocks the lengths (steps 0 and 4), the sweep (2 and 6) or
the envelopes (7), and goes on to the next. What a clock of the lengths, the sweep and the envelopes does.
A sweep or envelope timer at 0 counts in its 3-bit type, by the model's reading (log entry 8). -/
def Obligations.FrameSequencer : Prop :=
  (∀ (s : State) (delta : Nat),
    let t := (s.apuUpdate delta).apu
    let clock := s.apu.fsClock + delta
    s.apuUpdate delta = { s with apu := t } ∧
    (s.apu.power = false → t = s.apu) ∧
    (s.apu.power = true →
      t.fsClock = clock % 8192 ∧ t.fsStep.toNat = (s.apu.fsStep.toNat + clock / 8192) % 8 ∧
      t = (Apu.sequencerStep s.mem)^[clock / 8192]
        { s.apu.advance s.mem delta with fsClock := clock % 8192 })) ∧
  (∀ (m : Memory) (u : Apu),
    u.sequencerStep m = { (match u.fsStep.toNat with
      | 0 | 4 => u.clockLength
      | 2 | 6 => u.clockSweep (Memory.read m 0xFF10)
      | 7 => u.clockEnvelope m
      | _ => u) with fsStep := u.fsStep + 1 }) ∧
  (∀ u : Apu,
    let counted := fun (en : Bool) (n : Nat) => if en then n - 1 else n
    let plays := fun (en : Bool) (n : Nat) (on : Bool) => on && !(en && decide (n = 1))
    u.clockLength = { u with
      ch1 := { u.ch1 with
        length := counted u.ch1.lenEn u.ch1.length
        enabled := plays u.ch1.lenEn u.ch1.length u.ch1.enabled }
      ch2 := { u.ch2 with
        length := counted u.ch2.lenEn u.ch2.length
        enabled := plays u.ch2.lenEn u.ch2.length u.ch2.enabled }
      ch3 := { u.ch3 with
        length := counted u.ch3.lenEn u.ch3.length
        enabled := plays u.ch3.lenEn u.ch3.length u.ch3.enabled }
      ch4 := { u.ch4 with
        length := counted u.ch4.lenEn u.ch4.length
        enabled := plays u.ch4.lenEn u.ch4.length u.ch4.enabled } }) ∧
  (∀ (u : Apu) (nr10 : Byte),
    let time := nr10.toNat / 16 % 8
    let shift := nr10.toNat % 8
    let step := u.shadow.toNat / 2 ^ shift
    let new := if nr10.getLsbD 3 then u.shadow.toNat - step else u.shadow.toNat + step
    let reloaded : Apu := { u with sweepTimer := BitVec.ofNat 3 time }
    u.clockSweep nr10 =
      if u.ch1.enabled = false ∨ time = 0 then u
      else if u.sweepTimer ≠ 1 then { u with sweepTimer := u.sweepTimer - 1 }
      else if shift = 0 then reloaded
      else if 2047 < new then { reloaded with ch1 := { u.ch1 with enabled := false } }
      else { reloaded with
        shadow := BitVec.ofNat 11 new, ch1 := { u.ch1 with freq := BitVec.ofNat 11 new } }) ∧
  (∀ (m : Memory) (u : Apu),
    let nr := fun (n : Nat) => Memory.read m n
    let timer := fun (n : Nat) (t : BitVec 3) =>
      if (nr n).toNat % 8 = 0 then t else if t = 1 then BitVec.ofNat 3 (nr n).toNat else t - 1
    let volume := fun (n : Nat) (t : BitVec 3) (v : BitVec 4) =>
      if (nr n).toNat % 8 = 0 ∨ t ≠ 1 then v
      else BitVec.ofNat 4 (if (nr n).getLsbD 3 then min 15 (v.toNat + 1) else v.toNat - 1)
    u.clockEnvelope m = { u with
      ch1 := { u.ch1 with
        envTimer := timer 0xFF12 u.ch1.envTimer, vol := volume 0xFF12 u.ch1.envTimer u.ch1.vol }
      ch2 := { u.ch2 with
        envTimer := timer 0xFF17 u.ch2.envTimer, vol := volume 0xFF17 u.ch2.envTimer u.ch2.vol }
      ch4 := { u.ch4 with
        envTimer := timer 0xFF21 u.ch4.envTimer, vol := volume 0xFF21 u.ch4.envTimer u.ch4.vol } })

/-- R490 to R493: the waveform timers advanced by any number of cycles: each counts down, steps its
channel's waveform when it runs out and begins again with the channel's period; the noise step is the
shift register's. The amplitudes that follow, and their sum on each side (R494). That a timer at 0 is due
at once and a disabled channel's timer runs on is the model's reading (log entry 9), and so is that a
disabled wave or noise channel is silent and that a duty pattern begins at its leftmost digit (log entry
24). -/
def Obligations.Waveforms : Prop :=
  (∀ (m : Memory) (u : Apu) (delta : Nat),
    let nr43 := Memory.read m 0xFF22
    let left := fun (timer period : Nat) =>
      if delta < timer then timer - delta else period - (delta - timer) % period
    let steps := fun (timer period : Nat) =>
      if delta < timer then 0 else (delta - timer) / period + 1
    let p1 := (2048 - u.ch1.freq.toNat) * 4
    let p2 := (2048 - u.ch2.freq.toNat) * 4
    let p3 := (2048 - u.ch3.freq.toNat) * 2
    let p4 := ([8, 16, 32, 48, 64, 80, 96, 112] : List Nat).getD (nr43.toNat % 8) 0 *
      2 ^ (nr43.toNat / 16)
    let shifted := fun (x : BitVec 15) =>
      let b := Bool.xor (x.getLsbD 0) (x.getLsbD 1)
      let y : Nat := x.toNat / 2 + (if b then 2 ^ 14 else 0)
      BitVec.ofNat 15 (if nr43.getLsbD 3 then
        y / 2 ^ 7 * 2 ^ 7 + (if b then 2 ^ 6 else 0) + y % 2 ^ 6 else y)
    u.advance m delta = { u with
      ch1 := { u.ch1 with
        freqTimer := left u.ch1.freqTimer p1
        dutyPos := BitVec.ofNat 3 (u.ch1.dutyPos.toNat + steps u.ch1.freqTimer p1) }
      ch2 := { u.ch2 with
        freqTimer := left u.ch2.freqTimer p2
        dutyPos := BitVec.ofNat 3 (u.ch2.dutyPos.toNat + steps u.ch2.freqTimer p2) }
      ch3 := { u.ch3 with
        freqTimer := left u.ch3.freqTimer p3
        wavePos := BitVec.ofNat 5 (u.ch3.wavePos.toNat + steps u.ch3.freqTimer p3) }
      ch4 := { u.ch4 with
        freqTimer := left u.ch4.freqTimer p4
        lfsr := shifted^[steps u.ch4.freqTimer p4] u.ch4.lfsr } }) ∧
  (∀ s : State,
    let reg := fun (n : Nat) => (s.peek n).toNat
    let u := s.apu
    let pulse := fun (ch : Pulse) (nr1 : Nat) =>
      let pattern := ([[0, 0, 0, 0, 0, 0, 0, 1], [1, 0, 0, 0, 0, 0, 0, 1], [1, 0, 0, 0, 0, 1, 1, 1],
        [0, 1, 1, 1, 1, 1, 1, 0]] : List (List Nat)).getD (nr1 / 64) []
      if ch.enabled = true ∧ pattern.getD ch.dutyPos.toNat 0 = 1 then ch.vol.toNat else 0
    let pos := u.ch3.wavePos.toNat
    let sample := if pos % 2 = 0 then reg (0xFF30 + pos / 2) / 16 else reg (0xFF30 + pos / 2) % 16
    let a1 := pulse u.ch1 (reg 0xFF11)
    let a2 := pulse u.ch2 (reg 0xFF16)
    let a3 := if u.ch3.enabled = true then
      sample / 2 ^ (([4, 0, 1, 2] : List Nat).getD (reg 0xFF1C / 32 % 4) 0) else 0
    let a4 := if u.ch4.enabled = true ∧ u.ch4.lfsr.getLsbD 0 = false then u.ch4.vol.toNat else 0
    let heard := fun (k amplitude : Nat) => if (s.peek 0xFF25).getLsbD k then amplitude else 0
    s.amplitudes = [a1, a2, a3, a4] ∧
    s.leftOutput =
      (heard 4 a1 + heard 5 a2 + heard 6 a3 + heard 7 a4) * (reg 0xFF24 / 16 % 8 + 1) ∧
    s.rightOutput =
      (heard 0 a1 + heard 1 a2 + heard 2 a3 + heard 3 a4) * (reg 0xFF24 % 8 + 1))

/-! ### Reset and load -/

/-- R38, R520: the state after reset. The register values are the spec's parameter defaults (D5, log
entry 11), taken from the hardware's family; memory is zero, the controller the default one, every
parameter at its default (log entry 2). -/
def Obligations.ResetState : Prop :=
  let s := State.reset
  s.cfg = Config.default ∧
  s.a = 0x01 ∧ s.f = 0xB0 ∧ s.b = 0x00 ∧ s.c = 0x13 ∧ s.d = 0x00 ∧ s.e = 0xD8 ∧ s.h = 0x01 ∧
  s.l = 0x4D ∧ s.sp = 0xFFFE ∧ s.pc = 0x0100 ∧ s.cycles = 0 ∧ s.halted = false ∧ s.ime = false ∧
  s.pendingIE = false ∧ s.wakePenalty = false ∧ s.pcOverflow = false ∧ s.Live ∧
  (∀ n, s.peek n = 0) ∧ s.mbc.romBank = 1 ∧ s.mbc.ramBank = 0 ∧ s.mbc.mode = false ∧
  s.mbc.ramEnable = false ∧ s.timer.divSub = 0 ∧ s.timer.timaSub = 0 ∧ s.ppu.mode = .oamScan ∧
  s.ppu.modeClock = 0 ∧ s.ppu.line = 0 ∧ (∀ row ∈ s.ppu.fb, ∀ p ∈ row, p = 0) ∧
  s.ppu.sprites = [] ∧ s.apu.power = false ∧ s.apu.status = 0 ∧ s.apu.fsStep = 0 ∧ s.apu.fsClock = 0

/-- R69, R90, R96, R525: an image is loaded exactly when its header checksum is right and its type byte and
RAM-size code are ones the spec has; nothing changes otherwise. Loading it changes no CPU register, no
byte of the array and no device, makes it the ROM byte for byte, starts the controller of its type byte
afresh, and sizes the external RAM by its code and fills it with what the host's store holds for it, or
with zeros where there is nothing or another number of bytes (then signalled). A byte that an image
shorter than its header does not have counts as 0: the model's choice (log entry 19); that what the store
holds is an argument of the load is its reading (log entry 25). -/
def Obligations.LoadRom : Prop :=
  ∀ (s : State) (bytes : List Byte) (saved : Option (List Byte)),
    let header := fun (n : Nat) => (bytes.getD n 0).toNat
    let sum := ((List.range 25).map fun i => header (0x134 + i)).sum
    let good := (sum + header 0x14D + 1) % 256 = 0
    let type := header 0x147
    let kind : Option MbcKind :=
      if type = 0x00 then some .noMbc
      else if type ∈ [0x01, 0x02, 0x03] then some .mbc1
      else if type ∈ [0x0F, 0x10, 0x11, 0x12, 0x13] then some .mbc3
      else if type ∈ [0x19, 0x1A, 0x1B, 0x1C, 0x1D, 0x1E] then some .mbc5
      else none
    let size : Option Nat := match header 0x149 with
      | 0 => some 0
      | 1 => some 2048
      | 2 => some 8192
      | 3 => some 32768
      | _ => none
    (¬ good → s.loadRom bytes saved = .rejected .badChecksum) ∧
    (good → kind = none → s.loadRom bytes saved = .rejected .unknownType) ∧
    (good → kind ≠ none → size = none → s.loadRom bytes saved = .rejected .unknownRamCode) ∧
    (∀ k n, good → kind = some k → size = some n → ∃ t, s.loadRom bytes saved = .loaded t ∧
      t = { s with
        rom := t.rom, extRam := t.extRam, signals := t.signals
        mbc := { kind := k, romReg := 1, ramReg := 0, mode := false, ramEnable := false } } ∧
      t.rom.size = bytes.length ∧
      (∀ i, i < bytes.length → Memory.read t.rom.data i = bytes.getD i 0) ∧
      t.extRam.size = n ∧
      (saved = none → t.signals = s.signals ∧ ∀ i, Memory.read t.extRam.data i = 0) ∧
      (∀ ram, saved = some ram → ram.length = n → t.signals = s.signals ∧
        ∀ i, i < n → Memory.read t.extRam.data i = ram.getD i 0) ∧
      (∀ ram, saved = some ram → ram.length ≠ n → t.signals = s.signals ++ [Signal.saveSizeMismatch] ∧
        ∀ i, Memory.read t.extRam.data i = 0))

/-- The other host actions, each between two steps. R520, R523: `reset()` leaves every piece of state at
its value of R38, the registers and IME at this core's parameters; what survives is the ROM image, and the
model's own record (log entry 18). R85: a snapshot loaded is the snapshot's state but for the ROM, the
parameters and that record; loaded where it was taken it changes nothing. R370: a request sets its bit of
IF and nothing else; the host's is request 4. R366: a frame is iterations from a zeroed counter until the
V-blank answer, 70,224 cycles or a stop, whichever is first, and with the default cycle tables it always
gets there (otherwise the model makes at most 70,224 iterations: log entry 20). -/
def Obligations.HostActions : Prop :=
  (∀ s : State, s.hostReset = { State.reset with
    a := s.cfg.resetA, f := s.cfg.resetF, b := s.cfg.resetB, c := s.cfg.resetC
    d := s.cfg.resetD, e := s.cfg.resetE, h := s.cfg.resetH, l := s.cfg.resetL
    sp := s.cfg.resetSp, pc := s.cfg.resetPc, ime := s.cfg.resetIme
    rom := s.rom, cfg := s.cfg
    signals := s.signals, inputReads := s.inputReads, romDraws := s.romDraws }) ∧
  (∀ s u : State,
    u.loadSnapshot s.snapshot = { s with
      rom := u.rom, cfg := u.cfg
      signals := u.signals, inputReads := u.inputReads, romDraws := u.romDraws } ∧
    s.loadSnapshot s.snapshot = s) ∧
  (∀ (s : State) (k : Nat), k < 5 →
    let t := s.requestInterrupt k
    t = { s with mem := t.mem } ∧
    (∀ n, t.peek n =
      if n = s.cfg.ifAddr.toNat then s.peek n ||| BitVec.ofNat 8 (2 ^ k) else s.peek n) ∧
    s.requestJoypad = s.requestInterrupt 4) ∧
  (∀ s : State, s.Live → ∃ (t : State) (k : Nat),
    let after := fun (j : Nat) => Host.Core.run Sys2Proof.core j { s with cycles := 0 }
    let ended := fun (u : State) => u.vblank = true ∨ 70224 ≤ u.cycles ∨ ¬ u.Live
    runFrame s = .next t ∧ 0 < k ∧ after k = .next t ∧
    (∀ j, 0 < j → j < k → ∃ u, after j = .next u ∧ ¬ ended u) ∧
    (ended t ∨ k = 70224) ∧
    (s.cfg.DefaultCycles → ended t))
end

