-- ==== Sys2Proof/Laws/Memory.lean ====
section
/-!
SUPPORT. The laws of a byte store: what a read gives after a write, that every operation keeps the
canonical form and the bound, and that stores in canonical form with equal reads are equal.
-/

namespace Sys2Proof.Machine

/-! ### Reads -/

@[simp] theorem Memory.read_nil (n : Nat) : Memory.read [] n = 0 := rfl

theorem Memory.read_cons (k : Nat) (v : Byte) (m : Memory) (n : Nat) :
    Memory.read ((k, v) :: m) n = if k = n then v else Memory.read m n := rfl

theorem Memory.read_of_not_listed {m : Memory} {n : Nat} (h : ∀ cell ∈ m, cell.1 ≠ n) :
    Memory.read m n = 0 := by
  induction m with
  | nil => rfl
  | cons cell m ih =>
    obtain ⟨k, v⟩ := cell
    have hk : k ≠ n := h (k, v) (by simp)
    rw [Memory.read_cons, if_neg hk]
    exact ih fun c hc => h c (List.mem_cons_of_mem _ hc)

theorem Memory.read_erase_self (m : Memory) (n : Nat) : Memory.read (Memory.erase m n) n = 0 :=
  Memory.read_of_not_listed fun cell hc => by simpa using (List.mem_filter.mp hc).2

theorem Memory.read_erase_of_ne (m : Memory) {n k : Nat} (h : k ≠ n) :
    Memory.read (Memory.erase m n) k = Memory.read m k := by
  induction m with
  | nil => rfl
  | cons cell m ih =>
    obtain ⟨j, v⟩ := cell
    by_cases hj : j = n
    · subst hj
      have : Memory.erase ((j, v) :: m) j = Memory.erase m j := by simp [Memory.erase]
      rw [this, ih, Memory.read_cons, if_neg (Ne.symm h)]
    · have : Memory.erase ((j, v) :: m) n = (j, v) :: Memory.erase m n := by
        simp [Memory.erase, hj]
      rw [this, Memory.read_cons, Memory.read_cons, ih]

theorem Memory.read_place (m : Memory) (n : Nat) (v : Byte) (k : Nat)
    (h : ∀ cell ∈ m, cell.1 ≠ n) :
    Memory.read (Memory.place m n v) k = if k = n then v else Memory.read m k := by
  induction m with
  | nil => simp [Memory.place, Memory.read_cons, eq_comm]
  | cons cell m ih =>
    obtain ⟨j, w⟩ := cell
    have hj : j ≠ n := h (j, w) (by simp)
    have ih := ih fun c hc => h c (List.mem_cons_of_mem _ hc)
    by_cases hlt : n < j
    · simp only [Memory.place, if_pos hlt, Memory.read_cons, eq_comm (a := n)]
    · simp only [Memory.place, if_neg hlt, Memory.read_cons, ih]
      by_cases hk : j = k
      · subst hk; simp [hj]
      · simp [hk]

theorem Memory.not_listed_erase (m : Memory) (n : Nat) : ∀ cell ∈ Memory.erase m n, cell.1 ≠ n :=
  fun cell hc => by simpa using (List.mem_filter.mp hc).2

/-- A read after a write. -/
theorem Memory.read_write (m : Memory) (n : Nat) (v : Byte) (k : Nat) :
    Memory.read (Memory.write m n v) k = if k = n then v else Memory.read m k := by
  have place := Memory.read_place (Memory.erase m n) n v k (Memory.not_listed_erase m n)
  by_cases hk : k = n
  · subst hk
    unfold Memory.write
    split
    · next hv => rw [if_pos rfl, Memory.read_erase_self, hv]
    · rw [place, if_pos rfl, if_pos rfl]
  · unfold Memory.write
    split
    · exact Memory.read_erase_of_ne m hk
    · simp only [place, if_neg hk, Memory.read_erase_of_ne m hk]

@[simp] theorem Memory.read_write_self (m : Memory) (n : Nat) (v : Byte) :
    Memory.read (Memory.write m n v) n = v := by simp [Memory.read_write]

theorem Memory.read_write_of_ne (m : Memory) {n k : Nat} (v : Byte) (h : k ≠ n) :
    Memory.read (Memory.write m n v) k = Memory.read m k := by simp [Memory.read_write, h]

/-! ### The canonical form and the bound -/

theorem Memory.wf_nil : Memory.wf [] := by simp [Memory.wf]

theorem Memory.wf_erase {m : Memory} (h : Memory.wf m) (n : Nat) : Memory.wf (Memory.erase m n) :=
  ⟨h.1.filter _, fun cell hc => h.2 cell (List.mem_filter.mp hc).1⟩

theorem Memory.mem_place {m : Memory} {n : Nat} {v : Byte} {cell : Host.Cell}
    (h : cell ∈ Memory.place m n v) : cell = (n, v) ∨ cell ∈ m := by
  induction m with
  | nil => simpa [Memory.place] using h
  | cons c m ih =>
    obtain ⟨j, w⟩ := c
    simp only [Memory.place] at h
    split at h
    · simpa using h
    · rcases List.mem_cons.mp h with h | h
      · exact .inr (by simp [h])
      · exact (ih h).imp_right (List.mem_cons_of_mem _)

theorem Memory.wf_place {m : Memory} (h : Memory.wf m) {n : Nat} {v : Byte} (hv : v ≠ 0)
    (hn : ∀ cell ∈ m, cell.1 ≠ n) : Memory.wf (Memory.place m n v) := by
  refine ⟨?_, fun cell hc => ?_⟩
  · have hp := h.1
    clear h
    induction m with
    | nil => simp [Memory.place]
    | cons c m ih =>
      obtain ⟨j, w⟩ := c
      have hj : j ≠ n := hn (j, w) (by simp)
      have htail := List.pairwise_cons.mp hp
      simp only [Memory.place]
      split
      · rename_i hlt
        refine List.pairwise_cons.mpr ⟨fun x hx => ?_, hp⟩
        rcases List.mem_cons.mp hx with rfl | hx
        · exact hlt
        · exact Nat.lt_trans hlt (htail.1 x hx)
      · rename_i hlt
        refine List.pairwise_cons.mpr ⟨fun x hx => ?_,
          ih (fun c hc => hn c (List.mem_cons_of_mem _ hc)) htail.2⟩
        rcases Memory.mem_place hx with rfl | hx
        · show j < n
          omega
        · exact htail.1 x hx
  · rcases Memory.mem_place hc with rfl | hc
    · exact hv
    · exact h.2 cell hc

/-- A write keeps the canonical form. -/
theorem Memory.wf_write {m : Memory} (h : Memory.wf m) (n : Nat) (v : Byte) :
    Memory.wf (Memory.write m n v) := by
  unfold Memory.write
  split
  · exact Memory.wf_erase h n
  · rename_i hv
    exact Memory.wf_place (Memory.wf_erase h n) hv (Memory.not_listed_erase m n)

/-- A write inside a bound keeps it. -/
theorem Memory.below_write {m : Memory} {bound : Nat} (h : Memory.below m bound) {n : Nat}
    (hn : n < bound) (v : Byte) : Memory.below (Memory.write m n v) bound := by
  have he : Memory.below (Memory.erase m n) bound := fun cell hc => h cell (List.mem_filter.mp hc).1
  unfold Memory.write
  split
  · exact he
  · intro cell hc
    rcases Memory.mem_place hc with rfl | hc
    · exact hn
    · exact he cell hc

theorem Memory.read_of_below {m : Memory} {bound n : Nat} (h : Memory.below m bound)
    (hn : bound ≤ n) : Memory.read m n = 0 :=
  Memory.read_of_not_listed fun cell hc => by have := h cell hc; omega

/-! ### Equal memories are equal data -/

theorem Memory.read_head_lt {k : Nat} {v : Byte} {m : Memory} (h : Memory.wf ((k, v) :: m)) {n : Nat}
    (hn : n < k) : Memory.read ((k, v) :: m) n = 0 := by
  refine Memory.read_of_not_listed fun cell hc => ?_
  rcases List.mem_cons.mp hc with rfl | hc
  · show k ≠ n
    omega
  · have := (List.pairwise_cons.mp h.1).1 cell hc
    show cell.1 ≠ n
    simp at this
    omega

theorem Memory.wf_tail {c : Host.Cell} {m : Memory} (h : Memory.wf (c :: m)) : Memory.wf m :=
  ⟨(List.pairwise_cons.mp h.1).2, fun cell hc => h.2 cell (List.mem_cons_of_mem _ hc)⟩

/-- Two stores in canonical form that read alike are the same list. -/
theorem Memory.ext_of_read {m₁ m₂ : Memory} (h₁ : Memory.wf m₁) (h₂ : Memory.wf m₂)
    (h : ∀ n, Memory.read m₁ n = Memory.read m₂ n) : m₁ = m₂ := by
  induction m₁ generalizing m₂ with
  | nil =>
    cases m₂ with
    | nil => rfl
    | cons c m₂ =>
      obtain ⟨k, v⟩ := c
      have := h k
      simp [Memory.read_cons] at this
      exact absurd this.symm (h₂.2 (k, v) (by simp))
  | cons c₁ m₁ ih =>
    obtain ⟨k₁, v₁⟩ := c₁
    cases m₂ with
    | nil =>
      have := h k₁
      simp [Memory.read_cons] at this
      exact absurd this (h₁.2 (k₁, v₁) (by simp))
    | cons c₂ m₂ =>
      obtain ⟨k₂, v₂⟩ := c₂
      have hv₁ : v₁ ≠ 0 := h₁.2 (k₁, v₁) (by simp)
      have hv₂ : v₂ ≠ 0 := h₂.2 (k₂, v₂) (by simp)
      have hk : k₁ = k₂ := by
        rcases Nat.lt_trichotomy k₁ k₂ with hlt | heq | hlt
        · have := h k₁
          rw [Memory.read_head_lt h₂ hlt, Memory.read_cons, if_pos rfl] at this
          exact absurd this hv₁
        · exact heq
        · have := h k₂
          rw [Memory.read_head_lt h₁ hlt, Memory.read_cons, if_pos rfl] at this
          exact absurd this.symm hv₂
      subst hk
      have hv : v₁ = v₂ := by
        have := h k₁
        simpa [Memory.read_cons] using this
      subst hv
      congr 1
      refine ih (Memory.wf_tail h₁) (Memory.wf_tail h₂) fun n => ?_
      by_cases hn : k₁ = n
      · subst hn
        have z₁ : Memory.read m₁ k₁ = 0 := Memory.read_of_not_listed fun cell hc => by
          have := (List.pairwise_cons.mp h₁.1).1 cell hc
          simp at this
          omega
        have z₂ : Memory.read m₂ k₁ = 0 := Memory.read_of_not_listed fun cell hc => by
          have := (List.pairwise_cons.mp h₂.1).1 cell hc
          simp at this
          omega
        rw [z₁, z₂]
      · have := h n
        simpa [Memory.read_cons, hn] using this

/-! ### Lists of bytes as stores -/

theorem Memory.ofBytes_ge {base : Nat} {bytes : List Byte} :
    ∀ cell ∈ Memory.ofBytes base bytes, base ≤ cell.1 ∧ cell.1 < base + bytes.length := by
  induction bytes generalizing base with
  | nil => simp [Memory.ofBytes]
  | cons v vs ih =>
    intro cell hc
    simp only [Memory.ofBytes] at hc
    have tail : ∀ c ∈ Memory.ofBytes (base + 1) vs, base ≤ c.1 ∧ c.1 < base + (v :: vs).length :=
      fun c h => by have := ih c h; simp; omega
    split at hc
    · exact tail cell hc
    · rcases List.mem_cons.mp hc with rfl | hc
      · simp
      · exact tail cell hc

/-- A list of bytes gives a store in canonical form. -/
theorem Memory.wf_ofBytes (base : Nat) (bytes : List Byte) : Memory.wf (Memory.ofBytes base bytes) := by
  induction bytes generalizing base with
  | nil => simp [Memory.ofBytes, Memory.wf]
  | cons v vs ih =>
    simp only [Memory.ofBytes]
    split
    · exact ih (base + 1)
    · rename_i hv
      refine ⟨List.pairwise_cons.mpr ⟨fun x hx => ?_, (ih (base + 1)).1⟩, fun cell hc => ?_⟩
      · have := (Memory.ofBytes_ge x hx).1
        show base < x.1
        omega
      · rcases List.mem_cons.mp hc with rfl | hc
        · exact hv
        · exact (ih (base + 1)).2 cell hc

/-- Byte `n` of a list of bytes, read from the store it gives. -/
theorem Memory.read_ofBytes (base : Nat) (bytes : List Byte) (n : Nat) :
    Memory.read (Memory.ofBytes base bytes) (base + n) = bytes.getD n 0 := by
  induction bytes generalizing base n with
  | nil => simp [Memory.ofBytes]
  | cons v vs ih =>
    have below : Memory.read (Memory.ofBytes (base + 1) vs) base = 0 :=
      Memory.read_of_not_listed fun cell hc => by
        have := (Memory.ofBytes_ge cell hc).1
        omega
    have tail : ∀ k, Memory.read (Memory.ofBytes (base + 1) vs) (base + (k + 1)) = vs.getD k 0 :=
      fun k => by rw [show base + (k + 1) = base + 1 + k by omega, ih]
    simp only [Memory.ofBytes]
    cases n with
    | zero =>
      split
      · rename_i hv; simp [below, hv]
      · simp [Memory.read_cons]
    | succ k =>
      split
      · simpa using tail k
      · rw [Memory.read_cons, if_neg (by omega)]
        simpa using tail k

end Sys2Proof.Machine
end

