-- ==== Sys2Proof/Laws/State.lean ====
section
/-!
SUPPORT. One lemma per field for each operation that updates the record of a state directly: the
value of a field it writes, and every other field as before. All hold by `rfl`.
-/

namespace Sys2Proof.Machine

/-! ### `poke` -/

@[simp] theorem State.poke_mem (s : State) (n : Nat) (v : Byte) :
    (s.poke n v).mem = Memory.write s.mem n v := rfl

@[simp] theorem State.poke_a (s : State) (n : Nat) (v : Byte) :
    (s.poke n v).a = s.a := rfl

@[simp] theorem State.poke_f (s : State) (n : Nat) (v : Byte) :
    (s.poke n v).f = s.f := rfl

@[simp] theorem State.poke_b (s : State) (n : Nat) (v : Byte) :
    (s.poke n v).b = s.b := rfl

@[simp] theorem State.poke_c (s : State) (n : Nat) (v : Byte) :
    (s.poke n v).c = s.c := rfl

@[simp] theorem State.poke_d (s : State) (n : Nat) (v : Byte) :
    (s.poke n v).d = s.d := rfl

@[simp] theorem State.poke_e (s : State) (n : Nat) (v : Byte) :
    (s.poke n v).e = s.e := rfl

@[simp] theorem State.poke_h (s : State) (n : Nat) (v : Byte) :
    (s.poke n v).h = s.h := rfl

@[simp] theorem State.poke_l (s : State) (n : Nat) (v : Byte) :
    (s.poke n v).l = s.l := rfl

@[simp] theorem State.poke_sp (s : State) (n : Nat) (v : Byte) :
    (s.poke n v).sp = s.sp := rfl

@[simp] theorem State.poke_pc (s : State) (n : Nat) (v : Byte) :
    (s.poke n v).pc = s.pc := rfl

@[simp] theorem State.poke_cycles (s : State) (n : Nat) (v : Byte) :
    (s.poke n v).cycles = s.cycles := rfl

@[simp] theorem State.poke_halted (s : State) (n : Nat) (v : Byte) :
    (s.poke n v).halted = s.halted := rfl

@[simp] theorem State.poke_ime (s : State) (n : Nat) (v : Byte) :
    (s.poke n v).ime = s.ime := rfl

@[simp] theorem State.poke_pendingIE (s : State) (n : Nat) (v : Byte) :
    (s.poke n v).pendingIE = s.pendingIE := rfl

@[simp] theorem State.poke_wakePenalty (s : State) (n : Nat) (v : Byte) :
    (s.poke n v).wakePenalty = s.wakePenalty := rfl

@[simp] theorem State.poke_pcOverflow (s : State) (n : Nat) (v : Byte) :
    (s.poke n v).pcOverflow = s.pcOverflow := rfl

@[simp] theorem State.poke_run (s : State) (n : Nat) (v : Byte) :
    (s.poke n v).run = s.run := rfl

@[simp] theorem State.poke_rom (s : State) (n : Nat) (v : Byte) :
    (s.poke n v).rom = s.rom := rfl

@[simp] theorem State.poke_mbc (s : State) (n : Nat) (v : Byte) :
    (s.poke n v).mbc = s.mbc := rfl

@[simp] theorem State.poke_extRam (s : State) (n : Nat) (v : Byte) :
    (s.poke n v).extRam = s.extRam := rfl

@[simp] theorem State.poke_timer (s : State) (n : Nat) (v : Byte) :
    (s.poke n v).timer = s.timer := rfl

@[simp] theorem State.poke_ppu (s : State) (n : Nat) (v : Byte) :
    (s.poke n v).ppu = s.ppu := rfl

@[simp] theorem State.poke_apu (s : State) (n : Nat) (v : Byte) :
    (s.poke n v).apu = s.apu := rfl

@[simp] theorem State.poke_vblank (s : State) (n : Nat) (v : Byte) :
    (s.poke n v).vblank = s.vblank := rfl

@[simp] theorem State.poke_signals (s : State) (n : Nat) (v : Byte) :
    (s.poke n v).signals = s.signals := rfl

@[simp] theorem State.poke_inputReads (s : State) (n : Nat) (v : Byte) :
    (s.poke n v).inputReads = s.inputReads := rfl

@[simp] theorem State.poke_romDraws (s : State) (n : Nat) (v : Byte) :
    (s.poke n v).romDraws = s.romDraws := rfl

@[simp] theorem State.poke_cfg (s : State) (n : Nat) (v : Byte) :
    (s.poke n v).cfg = s.cfg := rfl

/-! ### `addCycles` -/

@[simp] theorem State.addCycles_cycles (s : State) (n : Nat) :
    (s.addCycles n).cycles = s.cycles + n := rfl

@[simp] theorem State.addCycles_a (s : State) (n : Nat) :
    (s.addCycles n).a = s.a := rfl

@[simp] theorem State.addCycles_f (s : State) (n : Nat) :
    (s.addCycles n).f = s.f := rfl

@[simp] theorem State.addCycles_b (s : State) (n : Nat) :
    (s.addCycles n).b = s.b := rfl

@[simp] theorem State.addCycles_c (s : State) (n : Nat) :
    (s.addCycles n).c = s.c := rfl

@[simp] theorem State.addCycles_d (s : State) (n : Nat) :
    (s.addCycles n).d = s.d := rfl

@[simp] theorem State.addCycles_e (s : State) (n : Nat) :
    (s.addCycles n).e = s.e := rfl

@[simp] theorem State.addCycles_h (s : State) (n : Nat) :
    (s.addCycles n).h = s.h := rfl

@[simp] theorem State.addCycles_l (s : State) (n : Nat) :
    (s.addCycles n).l = s.l := rfl

@[simp] theorem State.addCycles_sp (s : State) (n : Nat) :
    (s.addCycles n).sp = s.sp := rfl

@[simp] theorem State.addCycles_pc (s : State) (n : Nat) :
    (s.addCycles n).pc = s.pc := rfl

@[simp] theorem State.addCycles_halted (s : State) (n : Nat) :
    (s.addCycles n).halted = s.halted := rfl

@[simp] theorem State.addCycles_ime (s : State) (n : Nat) :
    (s.addCycles n).ime = s.ime := rfl

@[simp] theorem State.addCycles_pendingIE (s : State) (n : Nat) :
    (s.addCycles n).pendingIE = s.pendingIE := rfl

@[simp] theorem State.addCycles_wakePenalty (s : State) (n : Nat) :
    (s.addCycles n).wakePenalty = s.wakePenalty := rfl

@[simp] theorem State.addCycles_pcOverflow (s : State) (n : Nat) :
    (s.addCycles n).pcOverflow = s.pcOverflow := rfl

@[simp] theorem State.addCycles_run (s : State) (n : Nat) :
    (s.addCycles n).run = s.run := rfl

@[simp] theorem State.addCycles_mem (s : State) (n : Nat) :
    (s.addCycles n).mem = s.mem := rfl

@[simp] theorem State.addCycles_rom (s : State) (n : Nat) :
    (s.addCycles n).rom = s.rom := rfl

@[simp] theorem State.addCycles_mbc (s : State) (n : Nat) :
    (s.addCycles n).mbc = s.mbc := rfl

@[simp] theorem State.addCycles_extRam (s : State) (n : Nat) :
    (s.addCycles n).extRam = s.extRam := rfl

@[simp] theorem State.addCycles_timer (s : State) (n : Nat) :
    (s.addCycles n).timer = s.timer := rfl

@[simp] theorem State.addCycles_ppu (s : State) (n : Nat) :
    (s.addCycles n).ppu = s.ppu := rfl

@[simp] theorem State.addCycles_apu (s : State) (n : Nat) :
    (s.addCycles n).apu = s.apu := rfl

@[simp] theorem State.addCycles_vblank (s : State) (n : Nat) :
    (s.addCycles n).vblank = s.vblank := rfl

@[simp] theorem State.addCycles_signals (s : State) (n : Nat) :
    (s.addCycles n).signals = s.signals := rfl

@[simp] theorem State.addCycles_inputReads (s : State) (n : Nat) :
    (s.addCycles n).inputReads = s.inputReads := rfl

@[simp] theorem State.addCycles_romDraws (s : State) (n : Nat) :
    (s.addCycles n).romDraws = s.romDraws := rfl

@[simp] theorem State.addCycles_cfg (s : State) (n : Nat) :
    (s.addCycles n).cfg = s.cfg := rfl

/-! ### `raise` -/

@[simp] theorem State.raise_run (s : State) (r : StopReason) :
    (s.raise r).run = .stopped r := rfl

@[simp] theorem State.raise_a (s : State) (r : StopReason) :
    (s.raise r).a = s.a := rfl

@[simp] theorem State.raise_f (s : State) (r : StopReason) :
    (s.raise r).f = s.f := rfl

@[simp] theorem State.raise_b (s : State) (r : StopReason) :
    (s.raise r).b = s.b := rfl

@[simp] theorem State.raise_c (s : State) (r : StopReason) :
    (s.raise r).c = s.c := rfl

@[simp] theorem State.raise_d (s : State) (r : StopReason) :
    (s.raise r).d = s.d := rfl

@[simp] theorem State.raise_e (s : State) (r : StopReason) :
    (s.raise r).e = s.e := rfl

@[simp] theorem State.raise_h (s : State) (r : StopReason) :
    (s.raise r).h = s.h := rfl

@[simp] theorem State.raise_l (s : State) (r : StopReason) :
    (s.raise r).l = s.l := rfl

@[simp] theorem State.raise_sp (s : State) (r : StopReason) :
    (s.raise r).sp = s.sp := rfl

@[simp] theorem State.raise_pc (s : State) (r : StopReason) :
    (s.raise r).pc = s.pc := rfl

@[simp] theorem State.raise_cycles (s : State) (r : StopReason) :
    (s.raise r).cycles = s.cycles := rfl

@[simp] theorem State.raise_halted (s : State) (r : StopReason) :
    (s.raise r).halted = s.halted := rfl

@[simp] theorem State.raise_ime (s : State) (r : StopReason) :
    (s.raise r).ime = s.ime := rfl

@[simp] theorem State.raise_pendingIE (s : State) (r : StopReason) :
    (s.raise r).pendingIE = s.pendingIE := rfl

@[simp] theorem State.raise_wakePenalty (s : State) (r : StopReason) :
    (s.raise r).wakePenalty = s.wakePenalty := rfl

@[simp] theorem State.raise_pcOverflow (s : State) (r : StopReason) :
    (s.raise r).pcOverflow = s.pcOverflow := rfl

@[simp] theorem State.raise_mem (s : State) (r : StopReason) :
    (s.raise r).mem = s.mem := rfl

@[simp] theorem State.raise_rom (s : State) (r : StopReason) :
    (s.raise r).rom = s.rom := rfl

@[simp] theorem State.raise_mbc (s : State) (r : StopReason) :
    (s.raise r).mbc = s.mbc := rfl

@[simp] theorem State.raise_extRam (s : State) (r : StopReason) :
    (s.raise r).extRam = s.extRam := rfl

@[simp] theorem State.raise_timer (s : State) (r : StopReason) :
    (s.raise r).timer = s.timer := rfl

@[simp] theorem State.raise_ppu (s : State) (r : StopReason) :
    (s.raise r).ppu = s.ppu := rfl

@[simp] theorem State.raise_apu (s : State) (r : StopReason) :
    (s.raise r).apu = s.apu := rfl

@[simp] theorem State.raise_vblank (s : State) (r : StopReason) :
    (s.raise r).vblank = s.vblank := rfl

@[simp] theorem State.raise_signals (s : State) (r : StopReason) :
    (s.raise r).signals = s.signals := rfl

@[simp] theorem State.raise_inputReads (s : State) (r : StopReason) :
    (s.raise r).inputReads = s.inputReads := rfl

@[simp] theorem State.raise_romDraws (s : State) (r : StopReason) :
    (s.raise r).romDraws = s.romDraws := rfl

@[simp] theorem State.raise_cfg (s : State) (r : StopReason) :
    (s.raise r).cfg = s.cfg := rfl

/-! ### `jumpTo` -/

@[simp] theorem State.jumpTo_pc (s : State) (a : Word) :
    (s.jumpTo a).pc = a := rfl

@[simp] theorem State.jumpTo_pcOverflow (s : State) (a : Word) :
    (s.jumpTo a).pcOverflow = false := rfl

@[simp] theorem State.jumpTo_a (s : State) (a : Word) :
    (s.jumpTo a).a = s.a := rfl

@[simp] theorem State.jumpTo_f (s : State) (a : Word) :
    (s.jumpTo a).f = s.f := rfl

@[simp] theorem State.jumpTo_b (s : State) (a : Word) :
    (s.jumpTo a).b = s.b := rfl

@[simp] theorem State.jumpTo_c (s : State) (a : Word) :
    (s.jumpTo a).c = s.c := rfl

@[simp] theorem State.jumpTo_d (s : State) (a : Word) :
    (s.jumpTo a).d = s.d := rfl

@[simp] theorem State.jumpTo_e (s : State) (a : Word) :
    (s.jumpTo a).e = s.e := rfl

@[simp] theorem State.jumpTo_h (s : State) (a : Word) :
    (s.jumpTo a).h = s.h := rfl

@[simp] theorem State.jumpTo_l (s : State) (a : Word) :
    (s.jumpTo a).l = s.l := rfl

@[simp] theorem State.jumpTo_sp (s : State) (a : Word) :
    (s.jumpTo a).sp = s.sp := rfl

@[simp] theorem State.jumpTo_cycles (s : State) (a : Word) :
    (s.jumpTo a).cycles = s.cycles := rfl

@[simp] theorem State.jumpTo_halted (s : State) (a : Word) :
    (s.jumpTo a).halted = s.halted := rfl

@[simp] theorem State.jumpTo_ime (s : State) (a : Word) :
    (s.jumpTo a).ime = s.ime := rfl

@[simp] theorem State.jumpTo_pendingIE (s : State) (a : Word) :
    (s.jumpTo a).pendingIE = s.pendingIE := rfl

@[simp] theorem State.jumpTo_wakePenalty (s : State) (a : Word) :
    (s.jumpTo a).wakePenalty = s.wakePenalty := rfl

@[simp] theorem State.jumpTo_run (s : State) (a : Word) :
    (s.jumpTo a).run = s.run := rfl

@[simp] theorem State.jumpTo_mem (s : State) (a : Word) :
    (s.jumpTo a).mem = s.mem := rfl

@[simp] theorem State.jumpTo_rom (s : State) (a : Word) :
    (s.jumpTo a).rom = s.rom := rfl

@[simp] theorem State.jumpTo_mbc (s : State) (a : Word) :
    (s.jumpTo a).mbc = s.mbc := rfl

@[simp] theorem State.jumpTo_extRam (s : State) (a : Word) :
    (s.jumpTo a).extRam = s.extRam := rfl

@[simp] theorem State.jumpTo_timer (s : State) (a : Word) :
    (s.jumpTo a).timer = s.timer := rfl

@[simp] theorem State.jumpTo_ppu (s : State) (a : Word) :
    (s.jumpTo a).ppu = s.ppu := rfl

@[simp] theorem State.jumpTo_apu (s : State) (a : Word) :
    (s.jumpTo a).apu = s.apu := rfl

@[simp] theorem State.jumpTo_vblank (s : State) (a : Word) :
    (s.jumpTo a).vblank = s.vblank := rfl

@[simp] theorem State.jumpTo_signals (s : State) (a : Word) :
    (s.jumpTo a).signals = s.signals := rfl

@[simp] theorem State.jumpTo_inputReads (s : State) (a : Word) :
    (s.jumpTo a).inputReads = s.inputReads := rfl

@[simp] theorem State.jumpTo_romDraws (s : State) (a : Word) :
    (s.jumpTo a).romDraws = s.romDraws := rfl

@[simp] theorem State.jumpTo_cfg (s : State) (a : Word) :
    (s.jumpTo a).cfg = s.cfg := rfl

/-! ### `setBc` -/

@[simp] theorem State.setBc_b (s : State) (v : Word) :
    (s.setBc v).b = hiByte v := rfl

@[simp] theorem State.setBc_c (s : State) (v : Word) :
    (s.setBc v).c = loByte v := rfl

@[simp] theorem State.setBc_a (s : State) (v : Word) :
    (s.setBc v).a = s.a := rfl

@[simp] theorem State.setBc_f (s : State) (v : Word) :
    (s.setBc v).f = s.f := rfl

@[simp] theorem State.setBc_d (s : State) (v : Word) :
    (s.setBc v).d = s.d := rfl

@[simp] theorem State.setBc_e (s : State) (v : Word) :
    (s.setBc v).e = s.e := rfl

@[simp] theorem State.setBc_h (s : State) (v : Word) :
    (s.setBc v).h = s.h := rfl

@[simp] theorem State.setBc_l (s : State) (v : Word) :
    (s.setBc v).l = s.l := rfl

@[simp] theorem State.setBc_sp (s : State) (v : Word) :
    (s.setBc v).sp = s.sp := rfl

@[simp] theorem State.setBc_pc (s : State) (v : Word) :
    (s.setBc v).pc = s.pc := rfl

@[simp] theorem State.setBc_cycles (s : State) (v : Word) :
    (s.setBc v).cycles = s.cycles := rfl

@[simp] theorem State.setBc_halted (s : State) (v : Word) :
    (s.setBc v).halted = s.halted := rfl

@[simp] theorem State.setBc_ime (s : State) (v : Word) :
    (s.setBc v).ime = s.ime := rfl

@[simp] theorem State.setBc_pendingIE (s : State) (v : Word) :
    (s.setBc v).pendingIE = s.pendingIE := rfl

@[simp] theorem State.setBc_wakePenalty (s : State) (v : Word) :
    (s.setBc v).wakePenalty = s.wakePenalty := rfl

@[simp] theorem State.setBc_pcOverflow (s : State) (v : Word) :
    (s.setBc v).pcOverflow = s.pcOverflow := rfl

@[simp] theorem State.setBc_run (s : State) (v : Word) :
    (s.setBc v).run = s.run := rfl

@[simp] theorem State.setBc_mem (s : State) (v : Word) :
    (s.setBc v).mem = s.mem := rfl

@[simp] theorem State.setBc_rom (s : State) (v : Word) :
    (s.setBc v).rom = s.rom := rfl

@[simp] theorem State.setBc_mbc (s : State) (v : Word) :
    (s.setBc v).mbc = s.mbc := rfl

@[simp] theorem State.setBc_extRam (s : State) (v : Word) :
    (s.setBc v).extRam = s.extRam := rfl

@[simp] theorem State.setBc_timer (s : State) (v : Word) :
    (s.setBc v).timer = s.timer := rfl

@[simp] theorem State.setBc_ppu (s : State) (v : Word) :
    (s.setBc v).ppu = s.ppu := rfl

@[simp] theorem State.setBc_apu (s : State) (v : Word) :
    (s.setBc v).apu = s.apu := rfl

@[simp] theorem State.setBc_vblank (s : State) (v : Word) :
    (s.setBc v).vblank = s.vblank := rfl

@[simp] theorem State.setBc_signals (s : State) (v : Word) :
    (s.setBc v).signals = s.signals := rfl

@[simp] theorem State.setBc_inputReads (s : State) (v : Word) :
    (s.setBc v).inputReads = s.inputReads := rfl

@[simp] theorem State.setBc_romDraws (s : State) (v : Word) :
    (s.setBc v).romDraws = s.romDraws := rfl

@[simp] theorem State.setBc_cfg (s : State) (v : Word) :
    (s.setBc v).cfg = s.cfg := rfl

/-! ### `setDe` -/

@[simp] theorem State.setDe_d (s : State) (v : Word) :
    (s.setDe v).d = hiByte v := rfl

@[simp] theorem State.setDe_e (s : State) (v : Word) :
    (s.setDe v).e = loByte v := rfl

@[simp] theorem State.setDe_a (s : State) (v : Word) :
    (s.setDe v).a = s.a := rfl

@[simp] theorem State.setDe_f (s : State) (v : Word) :
    (s.setDe v).f = s.f := rfl

@[simp] theorem State.setDe_b (s : State) (v : Word) :
    (s.setDe v).b = s.b := rfl

@[simp] theorem State.setDe_c (s : State) (v : Word) :
    (s.setDe v).c = s.c := rfl

@[simp] theorem State.setDe_h (s : State) (v : Word) :
    (s.setDe v).h = s.h := rfl

@[simp] theorem State.setDe_l (s : State) (v : Word) :
    (s.setDe v).l = s.l := rfl

@[simp] theorem State.setDe_sp (s : State) (v : Word) :
    (s.setDe v).sp = s.sp := rfl

@[simp] theorem State.setDe_pc (s : State) (v : Word) :
    (s.setDe v).pc = s.pc := rfl

@[simp] theorem State.setDe_cycles (s : State) (v : Word) :
    (s.setDe v).cycles = s.cycles := rfl

@[simp] theorem State.setDe_halted (s : State) (v : Word) :
    (s.setDe v).halted = s.halted := rfl

@[simp] theorem State.setDe_ime (s : State) (v : Word) :
    (s.setDe v).ime = s.ime := rfl

@[simp] theorem State.setDe_pendingIE (s : State) (v : Word) :
    (s.setDe v).pendingIE = s.pendingIE := rfl

@[simp] theorem State.setDe_wakePenalty (s : State) (v : Word) :
    (s.setDe v).wakePenalty = s.wakePenalty := rfl

@[simp] theorem State.setDe_pcOverflow (s : State) (v : Word) :
    (s.setDe v).pcOverflow = s.pcOverflow := rfl

@[simp] theorem State.setDe_run (s : State) (v : Word) :
    (s.setDe v).run = s.run := rfl

@[simp] theorem State.setDe_mem (s : State) (v : Word) :
    (s.setDe v).mem = s.mem := rfl

@[simp] theorem State.setDe_rom (s : State) (v : Word) :
    (s.setDe v).rom = s.rom := rfl

@[simp] theorem State.setDe_mbc (s : State) (v : Word) :
    (s.setDe v).mbc = s.mbc := rfl

@[simp] theorem State.setDe_extRam (s : State) (v : Word) :
    (s.setDe v).extRam = s.extRam := rfl

@[simp] theorem State.setDe_timer (s : State) (v : Word) :
    (s.setDe v).timer = s.timer := rfl

@[simp] theorem State.setDe_ppu (s : State) (v : Word) :
    (s.setDe v).ppu = s.ppu := rfl

@[simp] theorem State.setDe_apu (s : State) (v : Word) :
    (s.setDe v).apu = s.apu := rfl

@[simp] theorem State.setDe_vblank (s : State) (v : Word) :
    (s.setDe v).vblank = s.vblank := rfl

@[simp] theorem State.setDe_signals (s : State) (v : Word) :
    (s.setDe v).signals = s.signals := rfl

@[simp] theorem State.setDe_inputReads (s : State) (v : Word) :
    (s.setDe v).inputReads = s.inputReads := rfl

@[simp] theorem State.setDe_romDraws (s : State) (v : Word) :
    (s.setDe v).romDraws = s.romDraws := rfl

@[simp] theorem State.setDe_cfg (s : State) (v : Word) :
    (s.setDe v).cfg = s.cfg := rfl

/-! ### `setHl` -/

@[simp] theorem State.setHl_h (s : State) (v : Word) :
    (s.setHl v).h = hiByte v := rfl

@[simp] theorem State.setHl_l (s : State) (v : Word) :
    (s.setHl v).l = loByte v := rfl

@[simp] theorem State.setHl_a (s : State) (v : Word) :
    (s.setHl v).a = s.a := rfl

@[simp] theorem State.setHl_f (s : State) (v : Word) :
    (s.setHl v).f = s.f := rfl

@[simp] theorem State.setHl_b (s : State) (v : Word) :
    (s.setHl v).b = s.b := rfl

@[simp] theorem State.setHl_c (s : State) (v : Word) :
    (s.setHl v).c = s.c := rfl

@[simp] theorem State.setHl_d (s : State) (v : Word) :
    (s.setHl v).d = s.d := rfl

@[simp] theorem State.setHl_e (s : State) (v : Word) :
    (s.setHl v).e = s.e := rfl

@[simp] theorem State.setHl_sp (s : State) (v : Word) :
    (s.setHl v).sp = s.sp := rfl

@[simp] theorem State.setHl_pc (s : State) (v : Word) :
    (s.setHl v).pc = s.pc := rfl

@[simp] theorem State.setHl_cycles (s : State) (v : Word) :
    (s.setHl v).cycles = s.cycles := rfl

@[simp] theorem State.setHl_halted (s : State) (v : Word) :
    (s.setHl v).halted = s.halted := rfl

@[simp] theorem State.setHl_ime (s : State) (v : Word) :
    (s.setHl v).ime = s.ime := rfl

@[simp] theorem State.setHl_pendingIE (s : State) (v : Word) :
    (s.setHl v).pendingIE = s.pendingIE := rfl

@[simp] theorem State.setHl_wakePenalty (s : State) (v : Word) :
    (s.setHl v).wakePenalty = s.wakePenalty := rfl

@[simp] theorem State.setHl_pcOverflow (s : State) (v : Word) :
    (s.setHl v).pcOverflow = s.pcOverflow := rfl

@[simp] theorem State.setHl_run (s : State) (v : Word) :
    (s.setHl v).run = s.run := rfl

@[simp] theorem State.setHl_mem (s : State) (v : Word) :
    (s.setHl v).mem = s.mem := rfl

@[simp] theorem State.setHl_rom (s : State) (v : Word) :
    (s.setHl v).rom = s.rom := rfl

@[simp] theorem State.setHl_mbc (s : State) (v : Word) :
    (s.setHl v).mbc = s.mbc := rfl

@[simp] theorem State.setHl_extRam (s : State) (v : Word) :
    (s.setHl v).extRam = s.extRam := rfl

@[simp] theorem State.setHl_timer (s : State) (v : Word) :
    (s.setHl v).timer = s.timer := rfl

@[simp] theorem State.setHl_ppu (s : State) (v : Word) :
    (s.setHl v).ppu = s.ppu := rfl

@[simp] theorem State.setHl_apu (s : State) (v : Word) :
    (s.setHl v).apu = s.apu := rfl

@[simp] theorem State.setHl_vblank (s : State) (v : Word) :
    (s.setHl v).vblank = s.vblank := rfl

@[simp] theorem State.setHl_signals (s : State) (v : Word) :
    (s.setHl v).signals = s.signals := rfl

@[simp] theorem State.setHl_inputReads (s : State) (v : Word) :
    (s.setHl v).inputReads = s.inputReads := rfl

@[simp] theorem State.setHl_romDraws (s : State) (v : Word) :
    (s.setHl v).romDraws = s.romDraws := rfl

@[simp] theorem State.setHl_cfg (s : State) (v : Word) :
    (s.setHl v).cfg = s.cfg := rfl

/-! ### `setAf` -/

@[simp] theorem State.setAf_a (s : State) (v : Word) :
    (s.setAf v).a = hiByte v := rfl

@[simp] theorem State.setAf_f (s : State) (v : Word) :
    (s.setAf v).f = loByte v := rfl

@[simp] theorem State.setAf_b (s : State) (v : Word) :
    (s.setAf v).b = s.b := rfl

@[simp] theorem State.setAf_c (s : State) (v : Word) :
    (s.setAf v).c = s.c := rfl

@[simp] theorem State.setAf_d (s : State) (v : Word) :
    (s.setAf v).d = s.d := rfl

@[simp] theorem State.setAf_e (s : State) (v : Word) :
    (s.setAf v).e = s.e := rfl

@[simp] theorem State.setAf_h (s : State) (v : Word) :
    (s.setAf v).h = s.h := rfl

@[simp] theorem State.setAf_l (s : State) (v : Word) :
    (s.setAf v).l = s.l := rfl

@[simp] theorem State.setAf_sp (s : State) (v : Word) :
    (s.setAf v).sp = s.sp := rfl

@[simp] theorem State.setAf_pc (s : State) (v : Word) :
    (s.setAf v).pc = s.pc := rfl

@[simp] theorem State.setAf_cycles (s : State) (v : Word) :
    (s.setAf v).cycles = s.cycles := rfl

@[simp] theorem State.setAf_halted (s : State) (v : Word) :
    (s.setAf v).halted = s.halted := rfl

@[simp] theorem State.setAf_ime (s : State) (v : Word) :
    (s.setAf v).ime = s.ime := rfl

@[simp] theorem State.setAf_pendingIE (s : State) (v : Word) :
    (s.setAf v).pendingIE = s.pendingIE := rfl

@[simp] theorem State.setAf_wakePenalty (s : State) (v : Word) :
    (s.setAf v).wakePenalty = s.wakePenalty := rfl

@[simp] theorem State.setAf_pcOverflow (s : State) (v : Word) :
    (s.setAf v).pcOverflow = s.pcOverflow := rfl

@[simp] theorem State.setAf_run (s : State) (v : Word) :
    (s.setAf v).run = s.run := rfl

@[simp] theorem State.setAf_mem (s : State) (v : Word) :
    (s.setAf v).mem = s.mem := rfl

@[simp] theorem State.setAf_rom (s : State) (v : Word) :
    (s.setAf v).rom = s.rom := rfl

@[simp] theorem State.setAf_mbc (s : State) (v : Word) :
    (s.setAf v).mbc = s.mbc := rfl

@[simp] theorem State.setAf_extRam (s : State) (v : Word) :
    (s.setAf v).extRam = s.extRam := rfl

@[simp] theorem State.setAf_timer (s : State) (v : Word) :
    (s.setAf v).timer = s.timer := rfl

@[simp] theorem State.setAf_ppu (s : State) (v : Word) :
    (s.setAf v).ppu = s.ppu := rfl

@[simp] theorem State.setAf_apu (s : State) (v : Word) :
    (s.setAf v).apu = s.apu := rfl

@[simp] theorem State.setAf_vblank (s : State) (v : Word) :
    (s.setAf v).vblank = s.vblank := rfl

@[simp] theorem State.setAf_signals (s : State) (v : Word) :
    (s.setAf v).signals = s.signals := rfl

@[simp] theorem State.setAf_inputReads (s : State) (v : Word) :
    (s.setAf v).inputReads = s.inputReads := rfl

@[simp] theorem State.setAf_romDraws (s : State) (v : Word) :
    (s.setAf v).romDraws = s.romDraws := rfl

@[simp] theorem State.setAf_cfg (s : State) (v : Word) :
    (s.setAf v).cfg = s.cfg := rfl

/-! ### `maskFlags` -/

@[simp] theorem State.maskFlags_f (s : State) :
    s.maskFlags.f = s.f &&& 0xF0 := rfl

@[simp] theorem State.maskFlags_a (s : State) :
    s.maskFlags.a = s.a := rfl

@[simp] theorem State.maskFlags_b (s : State) :
    s.maskFlags.b = s.b := rfl

@[simp] theorem State.maskFlags_c (s : State) :
    s.maskFlags.c = s.c := rfl

@[simp] theorem State.maskFlags_d (s : State) :
    s.maskFlags.d = s.d := rfl

@[simp] theorem State.maskFlags_e (s : State) :
    s.maskFlags.e = s.e := rfl

@[simp] theorem State.maskFlags_h (s : State) :
    s.maskFlags.h = s.h := rfl

@[simp] theorem State.maskFlags_l (s : State) :
    s.maskFlags.l = s.l := rfl

@[simp] theorem State.maskFlags_sp (s : State) :
    s.maskFlags.sp = s.sp := rfl

@[simp] theorem State.maskFlags_pc (s : State) :
    s.maskFlags.pc = s.pc := rfl

@[simp] theorem State.maskFlags_cycles (s : State) :
    s.maskFlags.cycles = s.cycles := rfl

@[simp] theorem State.maskFlags_halted (s : State) :
    s.maskFlags.halted = s.halted := rfl

@[simp] theorem State.maskFlags_ime (s : State) :
    s.maskFlags.ime = s.ime := rfl

@[simp] theorem State.maskFlags_pendingIE (s : State) :
    s.maskFlags.pendingIE = s.pendingIE := rfl

@[simp] theorem State.maskFlags_wakePenalty (s : State) :
    s.maskFlags.wakePenalty = s.wakePenalty := rfl

@[simp] theorem State.maskFlags_pcOverflow (s : State) :
    s.maskFlags.pcOverflow = s.pcOverflow := rfl

@[simp] theorem State.maskFlags_run (s : State) :
    s.maskFlags.run = s.run := rfl

@[simp] theorem State.maskFlags_mem (s : State) :
    s.maskFlags.mem = s.mem := rfl

@[simp] theorem State.maskFlags_rom (s : State) :
    s.maskFlags.rom = s.rom := rfl

@[simp] theorem State.maskFlags_mbc (s : State) :
    s.maskFlags.mbc = s.mbc := rfl

@[simp] theorem State.maskFlags_extRam (s : State) :
    s.maskFlags.extRam = s.extRam := rfl

@[simp] theorem State.maskFlags_timer (s : State) :
    s.maskFlags.timer = s.timer := rfl

@[simp] theorem State.maskFlags_ppu (s : State) :
    s.maskFlags.ppu = s.ppu := rfl

@[simp] theorem State.maskFlags_apu (s : State) :
    s.maskFlags.apu = s.apu := rfl

@[simp] theorem State.maskFlags_vblank (s : State) :
    s.maskFlags.vblank = s.vblank := rfl

@[simp] theorem State.maskFlags_signals (s : State) :
    s.maskFlags.signals = s.signals := rfl

@[simp] theorem State.maskFlags_inputReads (s : State) :
    s.maskFlags.inputReads = s.inputReads := rfl

@[simp] theorem State.maskFlags_romDraws (s : State) :
    s.maskFlags.romDraws = s.romDraws := rfl

@[simp] theorem State.maskFlags_cfg (s : State) :
    s.maskFlags.cfg = s.cfg := rfl

end Sys2Proof.Machine
end

