-- ==== Sys2Proof/Laws/Bus.lean ====
section
/-!
SUPPORT. What the bus can do: a read leaves everything but the model's counters of free values; a
write leaves everything but memory, the controller's registers, the external RAM's bytes, the
divider's sub-counter, the APU, the signals and those counters.
-/

namespace Sys2Proof.Machine

/-! ### Raw access -/

theorem State.peek_poke (s : State) (n : Nat) (v : Byte) (k : Nat) :
    (s.poke n v).peek k = if k = n then v else s.peek k := Memory.read_write s.mem n v k

@[simp] theorem State.peek_poke_self (s : State) (n : Nat) (v : Byte) : (s.poke n v).peek n = v := by
  simp [State.peek_poke]

theorem State.peek_poke_of_ne (s : State) {n k : Nat} (v : Byte) (h : k ≠ n) :
    (s.poke n v).peek k = s.peek k := by simp [State.peek_poke, h]

/-! ### Reads -/

/-- `t` differs from `s` at most in the counters of free values. -/
structure ReadFrame (s t : State) : Prop where
  a : t.a = s.a
  f : t.f = s.f
  b : t.b = s.b
  c : t.c = s.c
  d : t.d = s.d
  e : t.e = s.e
  h : t.h = s.h
  l : t.l = s.l
  sp : t.sp = s.sp
  pc : t.pc = s.pc
  cycles : t.cycles = s.cycles
  halted : t.halted = s.halted
  ime : t.ime = s.ime
  pendingIE : t.pendingIE = s.pendingIE
  wakePenalty : t.wakePenalty = s.wakePenalty
  pcOverflow : t.pcOverflow = s.pcOverflow
  run : t.run = s.run
  mem : t.mem = s.mem
  rom : t.rom = s.rom
  mbc : t.mbc = s.mbc
  extRam : t.extRam = s.extRam
  timer : t.timer = s.timer
  ppu : t.ppu = s.ppu
  apu : t.apu = s.apu
  vblank : t.vblank = s.vblank
  signals : t.signals = s.signals
  cfg : t.cfg = s.cfg

theorem ReadFrame.refl (s : State) : ReadFrame s s := by constructor <;> rfl

theorem ReadFrame.trans {s t u : State} (h : ReadFrame s t) (k : ReadFrame t u) : ReadFrame s u where
  a := k.a.trans h.a
  f := k.f.trans h.f
  b := k.b.trans h.b
  c := k.c.trans h.c
  d := k.d.trans h.d
  e := k.e.trans h.e
  h := k.h.trans h.h
  l := k.l.trans h.l
  sp := k.sp.trans h.sp
  pc := k.pc.trans h.pc
  cycles := k.cycles.trans h.cycles
  halted := k.halted.trans h.halted
  ime := k.ime.trans h.ime
  pendingIE := k.pendingIE.trans h.pendingIE
  wakePenalty := k.wakePenalty.trans h.wakePenalty
  pcOverflow := k.pcOverflow.trans h.pcOverflow
  run := k.run.trans h.run
  mem := k.mem.trans h.mem
  rom := k.rom.trans h.rom
  mbc := k.mbc.trans h.mbc
  extRam := k.extRam.trans h.extRam
  timer := k.timer.trans h.timer
  ppu := k.ppu.trans h.ppu
  apu := k.apu.trans h.apu
  vblank := k.vblank.trans h.vblank
  signals := k.signals.trans h.signals
  cfg := k.cfg.trans h.cfg

/-- A bus read leaves everything but the counters of free values (R66). -/
theorem State.busTouch_frame (s : State) (x : Word) : ReadFrame s (s.busTouch x) := by
  unfold State.busTouch
  repeat' split
  all_goals constructor <;> rfl

@[simp] theorem State.busTouch_a (s : State) (x : Word) :
    (s.busTouch x).a = s.a := (s.busTouch_frame x).a

@[simp] theorem State.busTouch_f (s : State) (x : Word) :
    (s.busTouch x).f = s.f := (s.busTouch_frame x).f

@[simp] theorem State.busTouch_b (s : State) (x : Word) :
    (s.busTouch x).b = s.b := (s.busTouch_frame x).b

@[simp] theorem State.busTouch_c (s : State) (x : Word) :
    (s.busTouch x).c = s.c := (s.busTouch_frame x).c

@[simp] theorem State.busTouch_d (s : State) (x : Word) :
    (s.busTouch x).d = s.d := (s.busTouch_frame x).d

@[simp] theorem State.busTouch_e (s : State) (x : Word) :
    (s.busTouch x).e = s.e := (s.busTouch_frame x).e

@[simp] theorem State.busTouch_h (s : State) (x : Word) :
    (s.busTouch x).h = s.h := (s.busTouch_frame x).h

@[simp] theorem State.busTouch_l (s : State) (x : Word) :
    (s.busTouch x).l = s.l := (s.busTouch_frame x).l

@[simp] theorem State.busTouch_sp (s : State) (x : Word) :
    (s.busTouch x).sp = s.sp := (s.busTouch_frame x).sp

@[simp] theorem State.busTouch_pc (s : State) (x : Word) :
    (s.busTouch x).pc = s.pc := (s.busTouch_frame x).pc

@[simp] theorem State.busTouch_cycles (s : State) (x : Word) :
    (s.busTouch x).cycles = s.cycles := (s.busTouch_frame x).cycles

@[simp] theorem State.busTouch_halted (s : State) (x : Word) :
    (s.busTouch x).halted = s.halted := (s.busTouch_frame x).halted

@[simp] theorem State.busTouch_ime (s : State) (x : Word) :
    (s.busTouch x).ime = s.ime := (s.busTouch_frame x).ime

@[simp] theorem State.busTouch_pendingIE (s : State) (x : Word) :
    (s.busTouch x).pendingIE = s.pendingIE := (s.busTouch_frame x).pendingIE

@[simp] theorem State.busTouch_wakePenalty (s : State) (x : Word) :
    (s.busTouch x).wakePenalty = s.wakePenalty := (s.busTouch_frame x).wakePenalty

@[simp] theorem State.busTouch_pcOverflow (s : State) (x : Word) :
    (s.busTouch x).pcOverflow = s.pcOverflow := (s.busTouch_frame x).pcOverflow

@[simp] theorem State.busTouch_run (s : State) (x : Word) :
    (s.busTouch x).run = s.run := (s.busTouch_frame x).run

@[simp] theorem State.busTouch_mem (s : State) (x : Word) :
    (s.busTouch x).mem = s.mem := (s.busTouch_frame x).mem

@[simp] theorem State.busTouch_rom (s : State) (x : Word) :
    (s.busTouch x).rom = s.rom := (s.busTouch_frame x).rom

@[simp] theorem State.busTouch_mbc (s : State) (x : Word) :
    (s.busTouch x).mbc = s.mbc := (s.busTouch_frame x).mbc

@[simp] theorem State.busTouch_extRam (s : State) (x : Word) :
    (s.busTouch x).extRam = s.extRam := (s.busTouch_frame x).extRam

@[simp] theorem State.busTouch_timer (s : State) (x : Word) :
    (s.busTouch x).timer = s.timer := (s.busTouch_frame x).timer

@[simp] theorem State.busTouch_ppu (s : State) (x : Word) :
    (s.busTouch x).ppu = s.ppu := (s.busTouch_frame x).ppu

@[simp] theorem State.busTouch_apu (s : State) (x : Word) :
    (s.busTouch x).apu = s.apu := (s.busTouch_frame x).apu

@[simp] theorem State.busTouch_vblank (s : State) (x : Word) :
    (s.busTouch x).vblank = s.vblank := (s.busTouch_frame x).vblank

@[simp] theorem State.busTouch_signals (s : State) (x : Word) :
    (s.busTouch x).signals = s.signals := (s.busTouch_frame x).signals

@[simp] theorem State.busTouch_cfg (s : State) (x : Word) :
    (s.busTouch x).cfg = s.cfg := (s.busTouch_frame x).cfg

@[simp] theorem State.busTouch_peek (s : State) (x : Word) (n : Nat) :
    (s.busTouch x).peek n = s.peek n := by simp [State.peek]

/-! ### Writes -/

/-- `t` differs from `s` at most in what a bus access can change. -/
structure BusFrame (s t : State) : Prop where
  a : t.a = s.a
  f : t.f = s.f
  b : t.b = s.b
  c : t.c = s.c
  d : t.d = s.d
  e : t.e = s.e
  h : t.h = s.h
  l : t.l = s.l
  sp : t.sp = s.sp
  pc : t.pc = s.pc
  cycles : t.cycles = s.cycles
  halted : t.halted = s.halted
  ime : t.ime = s.ime
  pendingIE : t.pendingIE = s.pendingIE
  wakePenalty : t.wakePenalty = s.wakePenalty
  pcOverflow : t.pcOverflow = s.pcOverflow
  run : t.run = s.run
  rom : t.rom = s.rom
  ppu : t.ppu = s.ppu
  vblank : t.vblank = s.vblank
  cfg : t.cfg = s.cfg
  mbcKind : t.mbc.kind = s.mbc.kind
  ramSize : t.extRam.size = s.extRam.size
  timaSub : t.timer.timaSub = s.timer.timaSub

theorem BusFrame.refl (s : State) : BusFrame s s := by constructor <;> rfl

theorem BusFrame.trans {s t u : State} (h : BusFrame s t) (k : BusFrame t u) : BusFrame s u where
  a := k.a.trans h.a
  f := k.f.trans h.f
  b := k.b.trans h.b
  c := k.c.trans h.c
  d := k.d.trans h.d
  e := k.e.trans h.e
  h := k.h.trans h.h
  l := k.l.trans h.l
  sp := k.sp.trans h.sp
  pc := k.pc.trans h.pc
  cycles := k.cycles.trans h.cycles
  halted := k.halted.trans h.halted
  ime := k.ime.trans h.ime
  pendingIE := k.pendingIE.trans h.pendingIE
  wakePenalty := k.wakePenalty.trans h.wakePenalty
  pcOverflow := k.pcOverflow.trans h.pcOverflow
  run := k.run.trans h.run
  rom := k.rom.trans h.rom
  ppu := k.ppu.trans h.ppu
  vblank := k.vblank.trans h.vblank
  cfg := k.cfg.trans h.cfg
  mbcKind := k.mbcKind.trans h.mbcKind
  ramSize := k.ramSize.trans h.ramSize
  timaSub := k.timaSub.trans h.timaSub

theorem ReadFrame.bus {s t : State} (h : ReadFrame s t) : BusFrame s t where
  a := h.a
  f := h.f
  b := h.b
  c := h.c
  d := h.d
  e := h.e
  h := h.h
  l := h.l
  sp := h.sp
  pc := h.pc
  cycles := h.cycles
  halted := h.halted
  ime := h.ime
  pendingIE := h.pendingIE
  wakePenalty := h.wakePenalty
  pcOverflow := h.pcOverflow
  run := h.run
  rom := h.rom
  ppu := h.ppu
  vblank := h.vblank
  cfg := h.cfg
  mbcKind := by rw [h.mbc]
  ramSize := by rw [h.extRam]
  timaSub := by rw [h.timer]

theorem State.poke_busFrame (s : State) (n : Nat) (v : Byte) : BusFrame s (s.poke n v) := by
  constructor <;> rfl

theorem State.dmaByte_frame (v : Byte) (s : State) (i : Nat) : BusFrame s (s.dmaByte v i) :=
  (s.busTouch_frame _).bus.trans (State.poke_busFrame _ _ _)

theorem State.dmaFold_frame (v : Byte) (l : List Nat) (s : State) :
    BusFrame s (l.foldl (State.dmaByte v) s) := by
  induction l generalizing s with
  | nil => exact BusFrame.refl s
  | cons i l ih => exact (s.dmaByte_frame v i).trans (ih _)

theorem State.dma_frame (s : State) (v : Byte) : BusFrame s (s.dma v) := State.dmaFold_frame v _ s

theorem State.apuWrite_frame (s : State) (n : Nat) (v : Byte) : BusFrame s (s.apuWrite n v) := by
  unfold State.apuWrite State.writeNr52
  dsimp only
  repeat' split
  all_goals constructor <;> rfl

theorem State.manageWrite_frame (s : State) (x : Word) (v : Byte) :
    BusFrame s (s.manageWrite x v) := by
  unfold State.manageWrite State.writeRamEnable State.writeRomBank State.writeRamBank
    State.writeModeOrLatch State.ramWrite
  repeat' split
  all_goals constructor <;> rfl

/-- A bus write leaves everything but memory, the controller's registers, the external RAM's bytes,
the divider's sub-counter, the APU, the signals and the counters of free values (R66, R71). -/
theorem State.busWrite_frame (s : State) (x : Word) (v : Byte) : BusFrame s (s.busWrite x v) := by
  unfold State.busWrite
  split
  · exact s.manageWrite_frame x v
  split
  · exact s.manageWrite_frame x v
  split
  · exact (s.poke_busFrame _ _).trans (State.poke_busFrame _ _ _)
  split
  · exact (s.poke_busFrame _ _).trans (State.poke_busFrame _ _ _)
  split
  · constructor <;> rfl
  split
  · exact (s.poke_busFrame _ _).trans (State.apuWrite_frame _ _ _)
  split
  · exact (s.poke_busFrame _ _).trans (State.dma_frame _ _)
  · exact s.poke_busFrame _ _

/-- Which device a bus write at `x` can change, beside memory (R66, R71). -/
structure BusReach (x : Word) (s t : State) : Prop where
  controller : 0x8000 ≤ x.toNat → t.mbc = s.mbc ∧ t.signals = s.signals
  extRam : x.toNat < 0xA000 ∨ 0xBFFF < x.toNat → t.extRam = s.extRam
  timer : x.toNat ≠ 0xFF04 → t.timer = s.timer
  apu : x.toNat < 0xFF10 ∨ 0xFF3F < x.toNat → t.apu = s.apu
  counters : x.toNat ≠ 0xFF46 → t.inputReads = s.inputReads ∧ t.romDraws = s.romDraws

theorem State.dmaFold_devices (v : Byte) (l : List Nat) (s : State) :
    let t := l.foldl (State.dmaByte v) s
    t.mbc = s.mbc ∧ t.signals = s.signals ∧ t.extRam = s.extRam ∧ t.timer = s.timer ∧
      t.apu = s.apu := by
  induction l generalizing s with
  | nil => exact ⟨rfl, rfl, rfl, rfl, rfl⟩
  | cons i l ih =>
    obtain ⟨a, b, c, d, e⟩ := ih (s.dmaByte v i)
    simp only [List.foldl_cons]
    exact ⟨a.trans (by simp [State.dmaByte]), b.trans (by simp [State.dmaByte]),
      c.trans (by simp [State.dmaByte]), d.trans (by simp [State.dmaByte]),
      e.trans (by simp [State.dmaByte])⟩

theorem State.manageWrite_reach (s : State) (x : Word) (v : Byte)
    (h : x.toNat < 0x8000 ∨ (0xA000 ≤ x.toNat ∧ x.toNat ≤ 0xBFFF)) :
    BusReach x s (s.manageWrite x v) := by
  unfold State.manageWrite State.writeRamEnable State.writeRomBank State.writeRamBank
    State.writeModeOrLatch State.ramWrite
  constructor <;> intro k <;> (repeat' split) <;> first
    | rfl
    | exact ⟨rfl, rfl⟩
    | (exfalso; omega)

theorem State.apuWrite_devices (s : State) (n : Nat) (v : Byte) :
    (s.apuWrite n v).mbc = s.mbc ∧ (s.apuWrite n v).signals = s.signals ∧
      (s.apuWrite n v).extRam = s.extRam ∧ (s.apuWrite n v).timer = s.timer ∧
      (s.apuWrite n v).inputReads = s.inputReads ∧ (s.apuWrite n v).romDraws = s.romDraws := by
  unfold State.apuWrite State.writeNr52
  dsimp only
  repeat' split
  all_goals exact ⟨rfl, rfl, rfl, rfl, rfl, rfl⟩

/-- What a bus write at an address can change beside memory. -/
theorem State.busWrite_reach (s : State) (x : Word) (v : Byte) : BusReach x s (s.busWrite x v) := by
  unfold State.busWrite
  split
  · next h => exact s.manageWrite_reach x v (.inl h)
  split
  · next h => exact s.manageWrite_reach x v (.inr h)
  split
  · exact ⟨fun _ => ⟨rfl, rfl⟩, fun _ => rfl, fun _ => rfl, fun _ => rfl, fun _ => ⟨rfl, rfl⟩⟩
  split
  · exact ⟨fun _ => ⟨rfl, rfl⟩, fun _ => rfl, fun _ => rfl, fun _ => rfl, fun _ => ⟨rfl, rfl⟩⟩
  split
  · next h =>
    exact ⟨fun _ => ⟨rfl, rfl⟩, fun _ => rfl, fun k => absurd h k, fun _ => rfl, fun _ => ⟨rfl, rfl⟩⟩
  split
  · next h =>
    obtain ⟨a, b, c, d, e, f⟩ := (s.poke x.toNat v).apuWrite_devices x.toNat v
    exact ⟨fun _ => ⟨a, b⟩, fun _ => c, fun _ => d, fun k => by omega, fun _ => ⟨e, f⟩⟩
  split
  · next h =>
    obtain ⟨a, b, c, d, e⟩ := State.dmaFold_devices v (List.range 0xA0) (s.poke 0xFF46 v)
    exact ⟨fun _ => ⟨a, b⟩, fun _ => c, fun _ => d, fun _ => e, fun k => absurd h k⟩
  · exact ⟨fun _ => ⟨rfl, rfl⟩, fun _ => rfl, fun _ => rfl, fun _ => rfl, fun _ => ⟨rfl, rfl⟩⟩

@[simp] theorem State.busWrite_a (s : State) (x : Word) (v : Byte) :
    (s.busWrite x v).a = s.a := (s.busWrite_frame x v).a

@[simp] theorem State.busWrite_f (s : State) (x : Word) (v : Byte) :
    (s.busWrite x v).f = s.f := (s.busWrite_frame x v).f

@[simp] theorem State.busWrite_b (s : State) (x : Word) (v : Byte) :
    (s.busWrite x v).b = s.b := (s.busWrite_frame x v).b

@[simp] theorem State.busWrite_c (s : State) (x : Word) (v : Byte) :
    (s.busWrite x v).c = s.c := (s.busWrite_frame x v).c

@[simp] theorem State.busWrite_d (s : State) (x : Word) (v : Byte) :
    (s.busWrite x v).d = s.d := (s.busWrite_frame x v).d

@[simp] theorem State.busWrite_e (s : State) (x : Word) (v : Byte) :
    (s.busWrite x v).e = s.e := (s.busWrite_frame x v).e

@[simp] theorem State.busWrite_h (s : State) (x : Word) (v : Byte) :
    (s.busWrite x v).h = s.h := (s.busWrite_frame x v).h

@[simp] theorem State.busWrite_l (s : State) (x : Word) (v : Byte) :
    (s.busWrite x v).l = s.l := (s.busWrite_frame x v).l

@[simp] theorem State.busWrite_sp (s : State) (x : Word) (v : Byte) :
    (s.busWrite x v).sp = s.sp := (s.busWrite_frame x v).sp

@[simp] theorem State.busWrite_pc (s : State) (x : Word) (v : Byte) :
    (s.busWrite x v).pc = s.pc := (s.busWrite_frame x v).pc

@[simp] theorem State.busWrite_cycles (s : State) (x : Word) (v : Byte) :
    (s.busWrite x v).cycles = s.cycles := (s.busWrite_frame x v).cycles

@[simp] theorem State.busWrite_halted (s : State) (x : Word) (v : Byte) :
    (s.busWrite x v).halted = s.halted := (s.busWrite_frame x v).halted

@[simp] theorem State.busWrite_ime (s : State) (x : Word) (v : Byte) :
    (s.busWrite x v).ime = s.ime := (s.busWrite_frame x v).ime

@[simp] theorem State.busWrite_pendingIE (s : State) (x : Word) (v : Byte) :
    (s.busWrite x v).pendingIE = s.pendingIE := (s.busWrite_frame x v).pendingIE

@[simp] theorem State.busWrite_wakePenalty (s : State) (x : Word) (v : Byte) :
    (s.busWrite x v).wakePenalty = s.wakePenalty := (s.busWrite_frame x v).wakePenalty

@[simp] theorem State.busWrite_pcOverflow (s : State) (x : Word) (v : Byte) :
    (s.busWrite x v).pcOverflow = s.pcOverflow := (s.busWrite_frame x v).pcOverflow

@[simp] theorem State.busWrite_run (s : State) (x : Word) (v : Byte) :
    (s.busWrite x v).run = s.run := (s.busWrite_frame x v).run

@[simp] theorem State.busWrite_rom (s : State) (x : Word) (v : Byte) :
    (s.busWrite x v).rom = s.rom := (s.busWrite_frame x v).rom

@[simp] theorem State.busWrite_ppu (s : State) (x : Word) (v : Byte) :
    (s.busWrite x v).ppu = s.ppu := (s.busWrite_frame x v).ppu

@[simp] theorem State.busWrite_vblank (s : State) (x : Word) (v : Byte) :
    (s.busWrite x v).vblank = s.vblank := (s.busWrite_frame x v).vblank

@[simp] theorem State.busWrite_cfg (s : State) (x : Word) (v : Byte) :
    (s.busWrite x v).cfg = s.cfg := (s.busWrite_frame x v).cfg

@[simp] theorem State.busWrite_mbcKind (s : State) (x : Word) (v : Byte) :
    (s.busWrite x v).mbc.kind = s.mbc.kind := (s.busWrite_frame x v).mbcKind

@[simp] theorem State.busWrite_ramSize (s : State) (x : Word) (v : Byte) :
    (s.busWrite x v).extRam.size = s.extRam.size := (s.busWrite_frame x v).ramSize

@[simp] theorem State.busWrite_timaSub (s : State) (x : Word) (v : Byte) :
    (s.busWrite x v).timer.timaSub = s.timer.timaSub := (s.busWrite_frame x v).timaSub

end Sys2Proof.Machine
end

