-- ==== Sys2Proof/Laws/BusCore.lean ====
section
/-!
SUPPORT. The bus does not see the core: an access made by a core with other registers does the same,
and leaves those registers as they are. So a register update commutes with every bus access.
-/

namespace Sys2Proof.Machine

/-- The machine `s` with the core of `c`: its registers, its counter, its flags and its run state. -/
def State.withCore (s c : State) : State :=
  { s with
    a := c.a, f := c.f, b := c.b, c := c.c, d := c.d, e := c.e, h := c.h, l := c.l
    sp := c.sp, pc := c.pc, cycles := c.cycles, halted := c.halted, ime := c.ime
    pendingIE := c.pendingIE, wakePenalty := c.wakePenalty, pcOverflow := c.pcOverflow
    run := c.run }

theorem State.withCore_busRead (s c : State) (x : Word) :
    (s.withCore c).busRead x = s.busRead x := rfl

theorem State.withCore_busTouch (s c : State) (x : Word) :
    (s.withCore c).busTouch x = (s.busTouch x).withCore c := by
  unfold State.busTouch
  split
  · rw [show (s.withCore c).romInRange x = s.romInRange x from rfl]
    split <;> rfl
  · split <;> rfl

theorem State.withCore_poke (s c : State) (n : Nat) (v : Byte) :
    (s.withCore c).poke n v = (s.poke n v).withCore c := by
  apply State.ext <;> rfl

theorem State.withCore_dma (s c : State) (v : Byte) :
    (s.withCore c).dma v = (s.dma v).withCore c := by
  unfold State.dma
  generalize List.range 0xA0 = l
  induction l generalizing s with
  | nil => rfl
  | cons i l ih =>
    simp only [List.foldl_cons]
    rw [← ih]
    congr 1
    unfold State.dmaByte
    dsimp only
    rw [State.withCore_busTouch, State.withCore_busRead]
    rfl

theorem State.withCore_manageWrite (s c : State) (x : Word) (v : Byte) :
    (s.withCore c).manageWrite x v = (s.manageWrite x v).withCore c := by
  unfold State.manageWrite State.writeRamEnable State.writeRomBank State.writeRamBank
    State.writeModeOrLatch State.ramWrite
  rw [show (s.withCore c).mbc = s.mbc from rfl, show (s.withCore c).ramPresent x = s.ramPresent x from rfl]
  split
  · rfl
  split
  · cases s.mbc.kind <;> rfl
  split
  · cases s.mbc.kind <;> rfl
  split
  · cases s.mbc.kind <;> rfl
  split <;> rfl

theorem State.withCore_apuWrite (s c : State) (n : Nat) (v : Byte) :
    (s.withCore c).apuWrite n v = (s.apuWrite n v).withCore c := by
  unfold State.apuWrite
  rw [show (s.withCore c).apu = s.apu from rfl]
  split
  · rfl
  split
  · rfl
  split <;> rfl

/-- A bus write by another core. -/
theorem State.withCore_busWrite (s c : State) (x : Word) (v : Byte) :
    (s.withCore c).busWrite x v = (s.busWrite x v).withCore c := by
  unfold State.busWrite
  split
  · exact s.withCore_manageWrite c x v
  split
  · exact s.withCore_manageWrite c x v
  split
  · simp only [State.withCore_poke]
  split
  · simp only [State.withCore_poke]
  split
  · simp only [State.withCore_poke]
    rfl
  split
  · rw [State.withCore_poke, State.withCore_apuWrite]
  split
  · rw [State.withCore_poke, State.withCore_dma]
  · simp only [State.withCore_poke]

/-- A core update before a bus write, after it. -/
theorem State.busWrite_core {s t : State} (h : t = s.withCore t) (x : Word) (v : Byte) :
    t.busWrite x v = (s.busWrite x v).withCore t := by
  rw [h]
  exact s.withCore_busWrite _ x v

theorem State.busTouch_core {s t : State} (h : t = s.withCore t) (x : Word) :
    t.busTouch x = (s.busTouch x).withCore t := by
  rw [h]
  exact s.withCore_busTouch _ x

/-- The core of the machine itself changes nothing. -/
theorem State.withCore_self {s t : State} (h : BusFrame s t) : t.withCore s = t := by
  apply State.ext <;>
    first
      | rfl
      | exact h.a.symm | exact h.f.symm | exact h.b.symm | exact h.c.symm | exact h.d.symm
      | exact h.e.symm | exact h.h.symm | exact h.l.symm | exact h.sp.symm | exact h.pc.symm
      | exact h.cycles.symm | exact h.halted.symm | exact h.ime.symm | exact h.pendingIE.symm
      | exact h.wakePenalty.symm | exact h.pcOverflow.symm | exact h.run.symm

/-! ### One register at a time -/

theorem State.busWrite_set_sp (s : State) (y x : Word) (v : Byte) :
    { s with sp := y }.busWrite x v = { s.busWrite x v with sp := y } := by
  rw [State.busWrite_core (s := s) rfl]
  exact congrArg (fun t : State => { t with sp := y }) (State.withCore_self (s.busWrite_frame x v))

theorem State.busWrite_set_f (s : State) (f : Byte) (x : Word) (v : Byte) :
    { s with f := f }.busWrite x v = { s.busWrite x v with f := f } := by
  rw [State.busWrite_core (s := s) rfl]
  exact congrArg (fun t : State => { t with f := f }) (State.withCore_self (s.busWrite_frame x v))

theorem State.busWrite_set_halted (s : State) (b : Bool) (x : Word) (v : Byte) :
    { s with halted := b }.busWrite x v = { s.busWrite x v with halted := b } := by
  rw [State.busWrite_core (s := s) rfl]
  exact congrArg (fun t : State => { t with halted := b })
    (State.withCore_self (s.busWrite_frame x v))

theorem State.busTouch_set_sp (s : State) (y x : Word) :
    { s with sp := y }.busTouch x = { s.busTouch x with sp := y } := by
  rw [State.busTouch_core (s := s) rfl]
  exact congrArg (fun t : State => { t with sp := y })
    (State.withCore_self (s.busTouch_frame x).bus)

/-! ### The stack -/

/-- `push16`: two bus writes and SP (R196). -/
theorem State.push16_eq (s : State) (v : Word) :
    s.push16 v = { (s.busWrite (s.sp - 1) (hiByte v)).busWrite (s.sp - 2) (loByte v) with
      sp := s.sp - 2 } := by
  have two : s.sp - 1 - 1 = s.sp - 2 := by bv_omega
  unfold State.push16 State.pushByte
  simp only [State.busWrite_set_sp, two]

/-- `pop16`: two bus reads and SP (R197). -/
theorem State.popped_eq (s : State) :
    s.popped = { (s.busTouch s.sp).busTouch (s.sp + 1) with sp := s.sp + 2 } := by
  have two : s.sp + 1 + 1 = s.sp + 2 := by bv_omega
  unfold State.popped State.popByte
  simp only [State.busTouch_set_sp, two]

theorem State.popValue_eq (s : State) :
    s.popValue = mkWord ((s.busTouch s.sp).busRead (s.sp + 1)) (s.busRead s.sp) := rfl

end Sys2Proof.Machine
end

