-- ==== Sys2Proof/Laws/Groups.lean ====
section
/-!
SUPPORT. Case analysis of `Instr` by the groups of the opcode map: what holds of every group, at
every operand, and of the instructions outside them holds of every instruction.
-/

namespace Sys2Proof

/-- Every instruction is one of a group of the opcode map or stands alone. -/
theorem Instr.byGroup {P : Instr → Prop}
    (ld : ∀ dst src, P (ldOf dst src))
    (alu : ∀ op x, P (aluOf op x))
    (aluImm : ∀ op d8, P (aluImmOf op d8))
    (inc : ∀ x, P (incOf x))
    (dec : ∀ x, P (decOf x))
    (ldImm : ∀ x d8, P (ldImmOf x d8))
    (ldImm16 : ∀ r d16, P (ldImm16Of r d16))
    (addHl : ∀ r, P (addHlOf r))
    (inc16 : ∀ r, P (inc16Of r))
    (dec16 : ∀ r, P (dec16Of r))
    (push : ∀ r, P (pushOf r))
    (pop : ∀ r, P (popOf r))
    (jrCc : ∀ cc e8, P (jrCcOf cc e8))
    (jpCc : ∀ cc a16, P (jpCcOf cc a16))
    (callCc : ∀ cc a16, P (callCcOf cc a16))
    (retCc : ∀ cc, P (retCcOf cc))
    (rst : ∀ y, y < 8 → P (rstOf y))
    (rot : ∀ op x, P (rotOf op x))
    (bit : ∀ b, b < 8 → ∀ x, P (bitOf b x))
    (res : ∀ b, b < 8 → ∀ x, P (resOf b x))
    (set : ∀ b, b < 8 → ∀ x, P (setOf b x))
    (nop : P .nop)
    (ldIndBcA : P .ldIndBcA)
    (rlca : P .rlca)
    (ldIndA16Sp : ∀ a16, P (.ldIndA16Sp a16))
    (ldAIndBc : P .ldAIndBc)
    (rrca : P .rrca)
    (stop : ∀ pad, P (.stop pad))
    (ldIndDeA : P .ldIndDeA)
    (rla : P .rla)
    (jrE8 : ∀ e8, P (.jrE8 e8))
    (ldAIndDe : P .ldAIndDe)
    (rra : P .rra)
    (ldIndHlIncA : P .ldIndHlIncA)
    (daa : P .daa)
    (ldAIndHlInc : P .ldAIndHlInc)
    (cpl : P .cpl)
    (ldIndHlDecA : P .ldIndHlDecA)
    (scf : P .scf)
    (ldAIndHlDec : P .ldAIndHlDec)
    (ccf : P .ccf)
    (jpA16 : ∀ a16, P (.jpA16 a16))
    (ret : P .ret)
    (prefixCb : ∀ cb, P (.prefixCb cb))
    (callA16 : ∀ a16, P (.callA16 a16))
    (illegal : ∀ op, P (.illegal op))
    (reti : P .reti)
    (ldhIndA8A : ∀ a8, P (.ldhIndA8A a8))
    (ldIndCA : P .ldIndCA)
    (addSpE8 : ∀ e8, P (.addSpE8 e8))
    (jpHl : P .jpHl)
    (ldIndA16A : ∀ a16, P (.ldIndA16A a16))
    (ldhAIndA8 : ∀ a8, P (.ldhAIndA8 a8))
    (ldAIndC : P .ldAIndC)
    (di : P .di)
    (ldHlSpE8 : ∀ e8, P (.ldHlSpE8 e8))
    (ldSpHl : P .ldSpHl)
    (ldAIndA16 : ∀ a16, P (.ldAIndA16 a16))
    (ei : P .ei) :
    ∀ i, P i
  | .nop => nop
  | .ldBcD16 d16 => ldImm16 .bc d16
  | .ldIndBcA => ldIndBcA
  | .incBc => inc16 .bc
  | .incB => inc .b
  | .decB => dec .b
  | .ldBD8 d8 => ldImm .b d8
  | .rlca => rlca
  | .ldIndA16Sp a16 => ldIndA16Sp a16
  | .addHlBc => addHl .bc
  | .ldAIndBc => ldAIndBc
  | .decBc => dec16 .bc
  | .incC => inc .c
  | .decC => dec .c
  | .ldCD8 d8 => ldImm .c d8
  | .rrca => rrca
  | .stop pad => stop pad
  | .ldDeD16 d16 => ldImm16 .de d16
  | .ldIndDeA => ldIndDeA
  | .incDe => inc16 .de
  | .incD => inc .d
  | .decD => dec .d
  | .ldDD8 d8 => ldImm .d d8
  | .rla => rla
  | .jrE8 e8 => jrE8 e8
  | .addHlDe => addHl .de
  | .ldAIndDe => ldAIndDe
  | .decDe => dec16 .de
  | .incE => inc .e
  | .decE => dec .e
  | .ldED8 d8 => ldImm .e d8
  | .rra => rra
  | .jrNzE8 e8 => jrCc .nz e8
  | .ldHlD16 d16 => ldImm16 .hl d16
  | .ldIndHlIncA => ldIndHlIncA
  | .incHl => inc16 .hl
  | .incH => inc .h
  | .decH => dec .h
  | .ldHD8 d8 => ldImm .h d8
  | .daa => daa
  | .jrZE8 e8 => jrCc .z e8
  | .addHlHl => addHl .hl
  | .ldAIndHlInc => ldAIndHlInc
  | .decHl => dec16 .hl
  | .incL => inc .l
  | .decL => dec .l
  | .ldLD8 d8 => ldImm .l d8
  | .cpl => cpl
  | .jrNcE8 e8 => jrCc .nc e8
  | .ldSpD16 d16 => ldImm16 .sp d16
  | .ldIndHlDecA => ldIndHlDecA
  | .incSp => inc16 .sp
  | .incIndHl => inc .indHl
  | .decIndHl => dec .indHl
  | .ldIndHlD8 d8 => ldImm .indHl d8
  | .scf => scf
  | .jrCE8 e8 => jrCc .c e8
  | .addHlSp => addHl .sp
  | .ldAIndHlDec => ldAIndHlDec
  | .decSp => dec16 .sp
  | .incA => inc .a
  | .decA => dec .a
  | .ldAD8 d8 => ldImm .a d8
  | .ccf => ccf
  | .ldBB => ld .b .b
  | .ldBC => ld .b .c
  | .ldBD => ld .b .d
  | .ldBE => ld .b .e
  | .ldBH => ld .b .h
  | .ldBL => ld .b .l
  | .ldBIndHl => ld .b .indHl
  | .ldBA => ld .b .a
  | .ldCB => ld .c .b
  | .ldCC => ld .c .c
  | .ldCD => ld .c .d
  | .ldCE => ld .c .e
  | .ldCH => ld .c .h
  | .ldCL => ld .c .l
  | .ldCIndHl => ld .c .indHl
  | .ldCA => ld .c .a
  | .ldDB => ld .d .b
  | .ldDC => ld .d .c
  | .ldDD => ld .d .d
  | .ldDE => ld .d .e
  | .ldDH => ld .d .h
  | .ldDL => ld .d .l
  | .ldDIndHl => ld .d .indHl
  | .ldDA => ld .d .a
  | .ldEB => ld .e .b
  | .ldEC => ld .e .c
  | .ldED => ld .e .d
  | .ldEE => ld .e .e
  | .ldEH => ld .e .h
  | .ldEL => ld .e .l
  | .ldEIndHl => ld .e .indHl
  | .ldEA => ld .e .a
  | .ldHB => ld .h .b
  | .ldHC => ld .h .c
  | .ldHD => ld .h .d
  | .ldHE => ld .h .e
  | .ldHH => ld .h .h
  | .ldHL => ld .h .l
  | .ldHIndHl => ld .h .indHl
  | .ldHA => ld .h .a
  | .ldLB => ld .l .b
  | .ldLC => ld .l .c
  | .ldLD => ld .l .d
  | .ldLE => ld .l .e
  | .ldLH => ld .l .h
  | .ldLL => ld .l .l
  | .ldLIndHl => ld .l .indHl
  | .ldLA => ld .l .a
  | .ldIndHlB => ld .indHl .b
  | .ldIndHlC => ld .indHl .c
  | .ldIndHlD => ld .indHl .d
  | .ldIndHlE => ld .indHl .e
  | .ldIndHlH => ld .indHl .h
  | .ldIndHlL => ld .indHl .l
  | .halt => ld .indHl .indHl
  | .ldIndHlA => ld .indHl .a
  | .ldAB => ld .a .b
  | .ldAC => ld .a .c
  | .ldAD => ld .a .d
  | .ldAE => ld .a .e
  | .ldAH => ld .a .h
  | .ldAL => ld .a .l
  | .ldAIndHl => ld .a .indHl
  | .ldAA => ld .a .a
  | .addAB => alu .add .b
  | .addAC => alu .add .c
  | .addAD => alu .add .d
  | .addAE => alu .add .e
  | .addAH => alu .add .h
  | .addAL => alu .add .l
  | .addAIndHl => alu .add .indHl
  | .addAA => alu .add .a
  | .adcAB => alu .adc .b
  | .adcAC => alu .adc .c
  | .adcAD => alu .adc .d
  | .adcAE => alu .adc .e
  | .adcAH => alu .adc .h
  | .adcAL => alu .adc .l
  | .adcAIndHl => alu .adc .indHl
  | .adcAA => alu .adc .a
  | .subB => alu .sub .b
  | .subC => alu .sub .c
  | .subD => alu .sub .d
  | .subE => alu .sub .e
  | .subH => alu .sub .h
  | .subL => alu .sub .l
  | .subIndHl => alu .sub .indHl
  | .subA => alu .sub .a
  | .sbcAB => alu .sbc .b
  | .sbcAC => alu .sbc .c
  | .sbcAD => alu .sbc .d
  | .sbcAE => alu .sbc .e
  | .sbcAH => alu .sbc .h
  | .sbcAL => alu .sbc .l
  | .sbcAIndHl => alu .sbc .indHl
  | .sbcAA => alu .sbc .a
  | .andB => alu .and .b
  | .andC => alu .and .c
  | .andD => alu .and .d
  | .andE => alu .and .e
  | .andH => alu .and .h
  | .andL => alu .and .l
  | .andIndHl => alu .and .indHl
  | .andA => alu .and .a
  | .xorB => alu .xor .b
  | .xorC => alu .xor .c
  | .xorD => alu .xor .d
  | .xorE => alu .xor .e
  | .xorH => alu .xor .h
  | .xorL => alu .xor .l
  | .xorIndHl => alu .xor .indHl
  | .xorA => alu .xor .a
  | .orB => alu .or .b
  | .orC => alu .or .c
  | .orD => alu .or .d
  | .orE => alu .or .e
  | .orH => alu .or .h
  | .orL => alu .or .l
  | .orIndHl => alu .or .indHl
  | .orA => alu .or .a
  | .cpB => alu .cp .b
  | .cpC => alu .cp .c
  | .cpD => alu .cp .d
  | .cpE => alu .cp .e
  | .cpH => alu .cp .h
  | .cpL => alu .cp .l
  | .cpIndHl => alu .cp .indHl
  | .cpA => alu .cp .a
  | .retNz => retCc .nz
  | .popBc => pop .bc
  | .jpNzA16 a16 => jpCc .nz a16
  | .jpA16 a16 => jpA16 a16
  | .callNzA16 a16 => callCc .nz a16
  | .pushBc => push .bc
  | .addAD8 d8 => aluImm .add d8
  | .rst00 => rst 0 (by decide)
  | .retZ => retCc .z
  | .ret => ret
  | .jpZA16 a16 => jpCc .z a16
  | .prefixCb cb => prefixCb cb
  | .callZA16 a16 => callCc .z a16
  | .callA16 a16 => callA16 a16
  | .adcAD8 d8 => aluImm .adc d8
  | .rst08 => rst 1 (by decide)
  | .retNc => retCc .nc
  | .popDe => pop .de
  | .jpNcA16 a16 => jpCc .nc a16
  | .illegal op => illegal op
  | .callNcA16 a16 => callCc .nc a16
  | .pushDe => push .de
  | .subD8 d8 => aluImm .sub d8
  | .rst10 => rst 2 (by decide)
  | .retC => retCc .c
  | .reti => reti
  | .jpCA16 a16 => jpCc .c a16
  | .callCA16 a16 => callCc .c a16
  | .sbcAD8 d8 => aluImm .sbc d8
  | .rst18 => rst 3 (by decide)
  | .ldhIndA8A a8 => ldhIndA8A a8
  | .popHl => pop .hl
  | .ldIndCA => ldIndCA
  | .pushHl => push .hl
  | .andD8 d8 => aluImm .and d8
  | .rst20 => rst 4 (by decide)
  | .addSpE8 e8 => addSpE8 e8
  | .jpHl => jpHl
  | .ldIndA16A a16 => ldIndA16A a16
  | .xorD8 d8 => aluImm .xor d8
  | .rst28 => rst 5 (by decide)
  | .ldhAIndA8 a8 => ldhAIndA8 a8
  | .popAf => pop .af
  | .ldAIndC => ldAIndC
  | .di => di
  | .pushAf => push .af
  | .orD8 d8 => aluImm .or d8
  | .rst30 => rst 6 (by decide)
  | .ldHlSpE8 e8 => ldHlSpE8 e8
  | .ldSpHl => ldSpHl
  | .ldAIndA16 a16 => ldAIndA16 a16
  | .ei => ei
  | .cpD8 d8 => aluImm .cp d8
  | .rst38 => rst 7 (by decide)
  | .rlcB => rot .rlc .b
  | .rlcC => rot .rlc .c
  | .rlcD => rot .rlc .d
  | .rlcE => rot .rlc .e
  | .rlcH => rot .rlc .h
  | .rlcL => rot .rlc .l
  | .rlcIndHl => rot .rlc .indHl
  | .rlcA => rot .rlc .a
  | .rrcB => rot .rrc .b
  | .rrcC => rot .rrc .c
  | .rrcD => rot .rrc .d
  | .rrcE => rot .rrc .e
  | .rrcH => rot .rrc .h
  | .rrcL => rot .rrc .l
  | .rrcIndHl => rot .rrc .indHl
  | .rrcA => rot .rrc .a
  | .rlB => rot .rl .b
  | .rlC => rot .rl .c
  | .rlD => rot .rl .d
  | .rlE => rot .rl .e
  | .rlH => rot .rl .h
  | .rlL => rot .rl .l
  | .rlIndHl => rot .rl .indHl
  | .rlA => rot .rl .a
  | .rrB => rot .rr .b
  | .rrC => rot .rr .c
  | .rrD => rot .rr .d
  | .rrE => rot .rr .e
  | .rrH => rot .rr .h
  | .rrL => rot .rr .l
  | .rrIndHl => rot .rr .indHl
  | .rrA => rot .rr .a
  | .slaB => rot .sla .b
  | .slaC => rot .sla .c
  | .slaD => rot .sla .d
  | .slaE => rot .sla .e
  | .slaH => rot .sla .h
  | .slaL => rot .sla .l
  | .slaIndHl => rot .sla .indHl
  | .slaA => rot .sla .a
  | .sraB => rot .sra .b
  | .sraC => rot .sra .c
  | .sraD => rot .sra .d
  | .sraE => rot .sra .e
  | .sraH => rot .sra .h
  | .sraL => rot .sra .l
  | .sraIndHl => rot .sra .indHl
  | .sraA => rot .sra .a
  | .swapB => rot .swap .b
  | .swapC => rot .swap .c
  | .swapD => rot .swap .d
  | .swapE => rot .swap .e
  | .swapH => rot .swap .h
  | .swapL => rot .swap .l
  | .swapIndHl => rot .swap .indHl
  | .swapA => rot .swap .a
  | .srlB => rot .srl .b
  | .srlC => rot .srl .c
  | .srlD => rot .srl .d
  | .srlE => rot .srl .e
  | .srlH => rot .srl .h
  | .srlL => rot .srl .l
  | .srlIndHl => rot .srl .indHl
  | .srlA => rot .srl .a
  | .bit0B => bit 0 (by decide) .b
  | .bit0C => bit 0 (by decide) .c
  | .bit0D => bit 0 (by decide) .d
  | .bit0E => bit 0 (by decide) .e
  | .bit0H => bit 0 (by decide) .h
  | .bit0L => bit 0 (by decide) .l
  | .bit0IndHl => bit 0 (by decide) .indHl
  | .bit0A => bit 0 (by decide) .a
  | .bit1B => bit 1 (by decide) .b
  | .bit1C => bit 1 (by decide) .c
  | .bit1D => bit 1 (by decide) .d
  | .bit1E => bit 1 (by decide) .e
  | .bit1H => bit 1 (by decide) .h
  | .bit1L => bit 1 (by decide) .l
  | .bit1IndHl => bit 1 (by decide) .indHl
  | .bit1A => bit 1 (by decide) .a
  | .bit2B => bit 2 (by decide) .b
  | .bit2C => bit 2 (by decide) .c
  | .bit2D => bit 2 (by decide) .d
  | .bit2E => bit 2 (by decide) .e
  | .bit2H => bit 2 (by decide) .h
  | .bit2L => bit 2 (by decide) .l
  | .bit2IndHl => bit 2 (by decide) .indHl
  | .bit2A => bit 2 (by decide) .a
  | .bit3B => bit 3 (by decide) .b
  | .bit3C => bit 3 (by decide) .c
  | .bit3D => bit 3 (by decide) .d
  | .bit3E => bit 3 (by decide) .e
  | .bit3H => bit 3 (by decide) .h
  | .bit3L => bit 3 (by decide) .l
  | .bit3IndHl => bit 3 (by decide) .indHl
  | .bit3A => bit 3 (by decide) .a
  | .bit4B => bit 4 (by decide) .b
  | .bit4C => bit 4 (by decide) .c
  | .bit4D => bit 4 (by decide) .d
  | .bit4E => bit 4 (by decide) .e
  | .bit4H => bit 4 (by decide) .h
  | .bit4L => bit 4 (by decide) .l
  | .bit4IndHl => bit 4 (by decide) .indHl
  | .bit4A => bit 4 (by decide) .a
  | .bit5B => bit 5 (by decide) .b
  | .bit5C => bit 5 (by decide) .c
  | .bit5D => bit 5 (by decide) .d
  | .bit5E => bit 5 (by decide) .e
  | .bit5H => bit 5 (by decide) .h
  | .bit5L => bit 5 (by decide) .l
  | .bit5IndHl => bit 5 (by decide) .indHl
  | .bit5A => bit 5 (by decide) .a
  | .bit6B => bit 6 (by decide) .b
  | .bit6C => bit 6 (by decide) .c
  | .bit6D => bit 6 (by decide) .d
  | .bit6E => bit 6 (by decide) .e
  | .bit6H => bit 6 (by decide) .h
  | .bit6L => bit 6 (by decide) .l
  | .bit6IndHl => bit 6 (by decide) .indHl
  | .bit6A => bit 6 (by decide) .a
  | .bit7B => bit 7 (by decide) .b
  | .bit7C => bit 7 (by decide) .c
  | .bit7D => bit 7 (by decide) .d
  | .bit7E => bit 7 (by decide) .e
  | .bit7H => bit 7 (by decide) .h
  | .bit7L => bit 7 (by decide) .l
  | .bit7IndHl => bit 7 (by decide) .indHl
  | .bit7A => bit 7 (by decide) .a
  | .res0B => res 0 (by decide) .b
  | .res0C => res 0 (by decide) .c
  | .res0D => res 0 (by decide) .d
  | .res0E => res 0 (by decide) .e
  | .res0H => res 0 (by decide) .h
  | .res0L => res 0 (by decide) .l
  | .res0IndHl => res 0 (by decide) .indHl
  | .res0A => res 0 (by decide) .a
  | .res1B => res 1 (by decide) .b
  | .res1C => res 1 (by decide) .c
  | .res1D => res 1 (by decide) .d
  | .res1E => res 1 (by decide) .e
  | .res1H => res 1 (by decide) .h
  | .res1L => res 1 (by decide) .l
  | .res1IndHl => res 1 (by decide) .indHl
  | .res1A => res 1 (by decide) .a
  | .res2B => res 2 (by decide) .b
  | .res2C => res 2 (by decide) .c
  | .res2D => res 2 (by decide) .d
  | .res2E => res 2 (by decide) .e
  | .res2H => res 2 (by decide) .h
  | .res2L => res 2 (by decide) .l
  | .res2IndHl => res 2 (by decide) .indHl
  | .res2A => res 2 (by decide) .a
  | .res3B => res 3 (by decide) .b
  | .res3C => res 3 (by decide) .c
  | .res3D => res 3 (by decide) .d
  | .res3E => res 3 (by decide) .e
  | .res3H => res 3 (by decide) .h
  | .res3L => res 3 (by decide) .l
  | .res3IndHl => res 3 (by decide) .indHl
  | .res3A => res 3 (by decide) .a
  | .res4B => res 4 (by decide) .b
  | .res4C => res 4 (by decide) .c
  | .res4D => res 4 (by decide) .d
  | .res4E => res 4 (by decide) .e
  | .res4H => res 4 (by decide) .h
  | .res4L => res 4 (by decide) .l
  | .res4IndHl => res 4 (by decide) .indHl
  | .res4A => res 4 (by decide) .a
  | .res5B => res 5 (by decide) .b
  | .res5C => res 5 (by decide) .c
  | .res5D => res 5 (by decide) .d
  | .res5E => res 5 (by decide) .e
  | .res5H => res 5 (by decide) .h
  | .res5L => res 5 (by decide) .l
  | .res5IndHl => res 5 (by decide) .indHl
  | .res5A => res 5 (by decide) .a
  | .res6B => res 6 (by decide) .b
  | .res6C => res 6 (by decide) .c
  | .res6D => res 6 (by decide) .d
  | .res6E => res 6 (by decide) .e
  | .res6H => res 6 (by decide) .h
  | .res6L => res 6 (by decide) .l
  | .res6IndHl => res 6 (by decide) .indHl
  | .res6A => res 6 (by decide) .a
  | .res7B => res 7 (by decide) .b
  | .res7C => res 7 (by decide) .c
  | .res7D => res 7 (by decide) .d
  | .res7E => res 7 (by decide) .e
  | .res7H => res 7 (by decide) .h
  | .res7L => res 7 (by decide) .l
  | .res7IndHl => res 7 (by decide) .indHl
  | .res7A => res 7 (by decide) .a
  | .set0B => set 0 (by decide) .b
  | .set0C => set 0 (by decide) .c
  | .set0D => set 0 (by decide) .d
  | .set0E => set 0 (by decide) .e
  | .set0H => set 0 (by decide) .h
  | .set0L => set 0 (by decide) .l
  | .set0IndHl => set 0 (by decide) .indHl
  | .set0A => set 0 (by decide) .a
  | .set1B => set 1 (by decide) .b
  | .set1C => set 1 (by decide) .c
  | .set1D => set 1 (by decide) .d
  | .set1E => set 1 (by decide) .e
  | .set1H => set 1 (by decide) .h
  | .set1L => set 1 (by decide) .l
  | .set1IndHl => set 1 (by decide) .indHl
  | .set1A => set 1 (by decide) .a
  | .set2B => set 2 (by decide) .b
  | .set2C => set 2 (by decide) .c
  | .set2D => set 2 (by decide) .d
  | .set2E => set 2 (by decide) .e
  | .set2H => set 2 (by decide) .h
  | .set2L => set 2 (by decide) .l
  | .set2IndHl => set 2 (by decide) .indHl
  | .set2A => set 2 (by decide) .a
  | .set3B => set 3 (by decide) .b
  | .set3C => set 3 (by decide) .c
  | .set3D => set 3 (by decide) .d
  | .set3E => set 3 (by decide) .e
  | .set3H => set 3 (by decide) .h
  | .set3L => set 3 (by decide) .l
  | .set3IndHl => set 3 (by decide) .indHl
  | .set3A => set 3 (by decide) .a
  | .set4B => set 4 (by decide) .b
  | .set4C => set 4 (by decide) .c
  | .set4D => set 4 (by decide) .d
  | .set4E => set 4 (by decide) .e
  | .set4H => set 4 (by decide) .h
  | .set4L => set 4 (by decide) .l
  | .set4IndHl => set 4 (by decide) .indHl
  | .set4A => set 4 (by decide) .a
  | .set5B => set 5 (by decide) .b
  | .set5C => set 5 (by decide) .c
  | .set5D => set 5 (by decide) .d
  | .set5E => set 5 (by decide) .e
  | .set5H => set 5 (by decide) .h
  | .set5L => set 5 (by decide) .l
  | .set5IndHl => set 5 (by decide) .indHl
  | .set5A => set 5 (by decide) .a
  | .set6B => set 6 (by decide) .b
  | .set6C => set 6 (by decide) .c
  | .set6D => set 6 (by decide) .d
  | .set6E => set 6 (by decide) .e
  | .set6H => set 6 (by decide) .h
  | .set6L => set 6 (by decide) .l
  | .set6IndHl => set 6 (by decide) .indHl
  | .set6A => set 6 (by decide) .a
  | .set7B => set 7 (by decide) .b
  | .set7C => set 7 (by decide) .c
  | .set7D => set 7 (by decide) .d
  | .set7E => set 7 (by decide) .e
  | .set7H => set 7 (by decide) .h
  | .set7L => set 7 (by decide) .l
  | .set7IndHl => set 7 (by decide) .indHl
  | .set7A => set 7 (by decide) .a

end Sys2Proof
end

