-- ==== Sys2Proof/Laws/Keeps.lean ====
section
/-!
SUPPORT. What the execute part of any instruction keeps: the ROM, the parameters, the PPU, and the
invariants of memory, the echo, the controller, the timer and the APU. One lemma per shared
operation; `exec_spec` says it of every instruction, and that every instruction answers a next state.
-/

namespace Sys2Proof.Machine

/-- From `s` to `t` nothing that only the devices or the host change has changed, and the invariants
of the stores, the echo, the controller, the timer and the APU carry over. -/
structure Keeps (s t : State) : Prop where
  rom : t.rom = s.rom
  cfg : t.cfg = s.cfg
  ppu : t.ppu = s.ppu
  vblank : t.vblank = s.vblank
  wakePenalty : t.wakePenalty = s.wakePenalty
  kind : t.mbc.kind = s.mbc.kind
  ramSize : t.extRam.size = s.extRam.size
  stores : StoresOk s → StoresOk t
  echo : EchoOk s → EchoOk t
  mbc : MbcOk s → MbcOk t
  timer : TimerOk s → TimerOk t
  apu : ApuOk s → ApuOk t

theorem Keeps.trans {s t u : State} (h : Keeps s t) (k : Keeps t u) : Keeps s u where
  rom := k.rom.trans h.rom
  cfg := k.cfg.trans h.cfg
  ppu := k.ppu.trans h.ppu
  vblank := k.vblank.trans h.vblank
  wakePenalty := k.wakePenalty.trans h.wakePenalty
  kind := k.kind.trans h.kind
  ramSize := k.ramSize.trans h.ramSize
  stores := fun x => k.stores (h.stores x)
  echo := fun x => k.echo (h.echo x)
  mbc := fun x => k.mbc (h.mbc x)
  timer := fun x => k.timer (h.timer x)
  apu := fun x => k.apu (h.apu x)

/-- States that agree on everything the invariants are about. -/
theorem Keeps.same {s t : State} (mem : t.mem = s.mem := by rfl) (rom : t.rom = s.rom := by rfl)
    (cfg : t.cfg = s.cfg := by rfl) (ppu : t.ppu = s.ppu := by rfl)
    (vblank : t.vblank = s.vblank := by rfl)
    (wakePenalty : t.wakePenalty = s.wakePenalty := by rfl) (mbc : t.mbc = s.mbc := by rfl)
    (extRam : t.extRam = s.extRam := by rfl) (timer : t.timer = s.timer := by rfl)
    (apu : t.apu = s.apu := by rfl) : Keeps s t where
  rom := rom
  cfg := cfg
  ppu := ppu
  vblank := vblank
  wakePenalty := wakePenalty
  kind := by rw [mbc]
  ramSize := by rw [extRam]
  stores := fun ⟨a, b, c, d, e, f⟩ => ⟨mem ▸ a, mem ▸ b, extRam ▸ c, extRam ▸ d, rom ▸ e, rom ▸ f⟩
  echo := fun h n => by simpa [State.peek, mem] using h n
  mbc := fun ⟨a, b⟩ => ⟨mbc ▸ a, mbc ▸ b⟩
  timer := fun ⟨a, b⟩ => ⟨timer ▸ a, timer ▸ b⟩
  apu := fun ⟨a, b, c, d⟩ =>
    ⟨by simpa [State.peek, mem, apu] using a, by simpa [State.peek, mem, apu] using b,
      by simpa [apu] using c, by simpa [apu] using d⟩

theorem Keeps.refl (s : State) : Keeps s s := Keeps.same

theorem ReadFrame.keeps {s t : State} (h : ReadFrame s t) : Keeps s t :=
  Keeps.same h.mem h.rom h.cfg h.ppu h.vblank h.wakePenalty h.mbc h.extRam h.timer h.apu

theorem State.busTouch_keeps (s : State) (x : Word) : Keeps s (s.busTouch x) :=
  (s.busTouch_frame x).keeps

/-! ### Raw stores -/

theorem StoresOk.poke {s : State} (h : StoresOk s) {n : Nat} (hn : n < 0x10000) (v : Byte) :
    StoresOk (s.poke n v) :=
  { h with mem_wf := Memory.wf_write h.mem_wf n v, mem_below := Memory.below_write h.mem_below hn v }

/-- A byte outside work RAM, its echo and the APU's registers. -/
theorem State.poke_keeps (s : State) {n : Nat} (v : Byte) (hn : n < 0x10000)
    (hecho : n < 0xC000 ∨ (0xDDFF < n ∧ n < 0xE000) ∨ 0xFDFF < n) (hapu : n < 0xFF10 ∨ 0xFF26 < n) : Keeps s (s.poke n v) where
  rom := rfl
  cfg := rfl
  ppu := rfl
  vblank := rfl
  wakePenalty := rfl
  kind := rfl
  ramSize := rfl
  stores := fun h => h.poke hn v
  echo := fun h k lo hi => by
    rw [s.peek_poke_of_ne v (by omega), s.peek_poke_of_ne v (by omega)]
    exact h k lo hi
  mbc := fun h => ⟨h.nonzero, h.five_bits⟩
  timer := fun h => ⟨h.div, h.tima⟩
  apu := fun h =>
    { power := by rw [s.peek_poke_of_ne v (by omega)]; exact h.power
      registers := fun off k lo hi => by
        rw [s.peek_poke_of_ne v (by omega)]; exact h.registers off k lo hi
      silent := h.silent
      clock := h.clock }

/-- A byte of work RAM and its mirror, written alike, in either order. -/
theorem State.pokePair_keeps (s : State) {n x y : Nat} (v : Byte) (lo : 0xC000 ≤ n) (hi : n ≤ 0xDDFF)
    (hxy : (x = n ∧ y = n + 0x2000) ∨ (x = n + 0x2000 ∧ y = n)) :
    Keeps s ((s.poke x v).poke y v) where
  rom := rfl
  cfg := rfl
  ppu := rfl
  vblank := rfl
  wakePenalty := rfl
  kind := rfl
  ramSize := rfl
  stores := fun h => (h.poke (by omega) v).poke (by omega) v
  echo := fun h k klo khi => by
    have same := h k klo khi
    simp only [State.peek_poke]
    by_cases hk : k = n
    · subst hk
      rcases hxy with ⟨rfl, rfl⟩ | ⟨rfl, rfl⟩ <;> simp
    · simp only [show k ≠ x by omega, show k ≠ y by omega, show k + 0x2000 ≠ x by omega,
        show k + 0x2000 ≠ y by omega, if_false]
      exact same
  mbc := fun h => ⟨h.nonzero, h.five_bits⟩
  timer := fun h => ⟨h.div, h.tima⟩
  apu := fun h =>
    { power := by
        rw [State.peek_poke_of_ne _ v (by omega), State.peek_poke_of_ne _ v (by omega)]
        exact h.power
      registers := fun off k klo khi => by
        rw [State.peek_poke_of_ne _ v (by omega), State.peek_poke_of_ne _ v (by omega)]
        exact h.registers off k klo khi
      silent := h.silent
      clock := h.clock }

/-! ### Controller -/

theorem State.manageWrite_keeps (s : State) (x : Word) (v : Byte) : Keeps s (s.manageWrite x v) := by
  have coerced : ∀ r : BitVec 7, coerceBank r ≠ 0 := by decide
  have five : ∀ r : BitVec 5, (coerceBank (r.zeroExtend 7)).toNat < 32 := by decide
  have nz : ∀ {t : State}, MbcOk t → ¬ t.mbc.romReg = 0 := fun h => h.nonzero
  unfold State.manageWrite State.writeRamEnable State.writeRomBank State.writeRamBank
    State.writeModeOrLatch State.ramWrite
  repeat' split
  all_goals
    first
      | exact Keeps.refl s
      | (refine ⟨rfl, rfl, rfl, rfl, rfl, rfl, rfl, fun h => ?_, id, fun h => ?_,
          fun h => ⟨h.div, h.tima⟩, fun h => ⟨h.power, h.registers, h.silent, h.clock⟩⟩
         · first
            | exact ⟨h.mem_wf, h.mem_below, h.ext_wf, h.ext_below, h.rom_wf, h.rom_below⟩
            | (refine ⟨h.mem_wf, h.mem_below, Memory.wf_write h.ext_wf _ _,
                Memory.below_write h.ext_below ?_ _, h.rom_wf, h.rom_below⟩
               simp_all [State.ramPresent])
         · first
            | exact ⟨h.nonzero, h.five_bits⟩
            | exact ⟨coerced _, fun _ => five _⟩
            | exact ⟨coerced _, fun k => by simp_all⟩)

/-! ### APU -/

theorem Apu.writeNr14_power (u : Apu) (m : Memory) (v : Byte) :
    (u.writeNr14 m v).power = u.power := by
  simp only [Apu.writeNr14, apply_ite Apu.power, ite_self]

theorem Apu.writeNr14_fsClock (u : Apu) (m : Memory) (v : Byte) :
    (u.writeNr14 m v).fsClock = u.fsClock := by
  simp only [Apu.writeNr14, apply_ite Apu.fsClock, ite_self]

theorem Apu.writeRegister_power (u : Apu) (m : Memory) (n : Nat) (v : Byte) :
    (u.writeRegister m n v).power = u.power := by
  simp only [Apu.writeRegister, apply_ite Apu.power, Apu.writeNr14_power, ite_self]

theorem Apu.writeRegister_fsClock (u : Apu) (m : Memory) (n : Nat) (v : Byte) :
    (u.writeRegister m n v).fsClock = u.fsClock := by
  simp only [Apu.writeRegister, apply_ite Apu.fsClock, Apu.writeNr14_fsClock, ite_self]

theorem read_clearApuRegisters (m : Memory) (k : Nat) :
    Memory.read (clearApuRegisters m) k =
      if 0xFF10 ≤ k ∧ k ≤ 0xFF25 then 0 else Memory.read m k := by
  have fold : ∀ (c : Nat) (m : Memory), Memory.read
      ((List.range c).foldl (fun m i => Memory.write m (0xFF10 + i) 0) m) k =
        if 0xFF10 ≤ k ∧ k < 0xFF10 + c then 0 else Memory.read m k := by
    intro c m
    induction c with
    | zero => rw [if_neg (by omega)]; rfl
    | succ c ih =>
      rw [List.range_succ, List.foldl_append, List.foldl_cons, List.foldl_nil, Memory.read_write, ih]
      by_cases hk : k = 0xFF10 + c
      · rw [if_pos hk, if_pos (by omega)]
      · rw [if_neg hk]
        by_cases h : 0xFF10 ≤ k ∧ k < 0xFF10 + c
        · rw [if_pos h, if_pos (by omega)]
        · rw [if_neg h, if_neg (by omega)]
  rw [clearApuRegisters, fold]
  by_cases h : 0xFF10 ≤ k ∧ k ≤ 0xFF25
  · rw [if_pos h, if_pos (by omega)]
  · rw [if_neg h, if_neg (by omega)]

theorem wf_clearApuRegisters {m : Memory} (h : Memory.wf m) : Memory.wf (clearApuRegisters m) := by
  have fold : ∀ (l : List Nat) (m : Memory), Memory.wf m →
      Memory.wf (l.foldl (fun m i => Memory.write m (0xFF10 + i) 0) m) := by
    intro l
    induction l with
    | nil => exact fun _ h => h
    | cons i l ih => exact fun m h => ih _ (Memory.wf_write h _ _)
  exact fold _ m h

theorem below_clearApuRegisters {m : Memory} (h : Memory.below m 0x10000) :
    Memory.below (clearApuRegisters m) 0x10000 := by
  have fold : ∀ l : List Nat, (∀ i ∈ l, i < 22) → ∀ m : Memory, Memory.below m 0x10000 →
      Memory.below (l.foldl (fun m i => Memory.write m (0xFF10 + i) 0) m) 0x10000 := by
    intro l
    induction l with
    | nil => exact fun _ _ h => h
    | cons i l ih =>
      intro hl m h
      have hi := hl i (by simp)
      exact ih (fun j hj => hl j (List.mem_cons_of_mem _ hj)) _ (Memory.below_write h (by omega) _)
  exact fold _ (fun i hi => List.mem_range.mp hi) m h

theorem Apu.status_powerOff (u : Apu) : u.powerOff.status = 0 := by
  simp [Apu.status, Apu.powerOff, Pulse.powerOff]

theorem and_power_bit (v : Byte) : v &&& 0x80 = if v.getLsbD 7 then 0x80 else 0 := by
  revert v; decide

/-- What a write to NR52 leaves, whatever became of the other registers: `m` is the array before NR52
itself is stored, `u` the APU after. -/
theorem State.nr52_keeps (s : State) (v : Byte) (m : Memory) (u : Apu)
    (hwf : Memory.wf s.mem → Memory.wf m)
    (hbelow : Memory.below s.mem 0x10000 → Memory.below m 0x10000)
    (hlow : ∀ k, k < 0xFF10 → Memory.read m k = s.peek k) (hpower : u.power = v.getLsbD 7)
    (hoff : u.power = false → ApuOk s →
      (∀ k, 0xFF10 ≤ k → k ≤ 0xFF25 → Memory.read m k = 0) ∧ u.status = 0)
    (hclock : ApuOk s → u.fsClock < 8192) :
    Keeps s ({ s with mem := m, apu := u }.poke 0xFF26 (v &&& 0x80)) where
  rom := rfl
  cfg := rfl
  ppu := rfl
  vblank := rfl
  wakePenalty := rfl
  kind := rfl
  ramSize := rfl
  stores := fun h =>
    ⟨Memory.wf_write (hwf h.mem_wf) _ _, Memory.below_write (hbelow h.mem_below) (by omega) _,
      h.ext_wf, h.ext_below, h.rom_wf, h.rom_below⟩
  echo := fun h k lo hi => by
    rw [State.peek_poke_of_ne _ _ (by omega), State.peek_poke_of_ne _ _ (by omega)]
    show Memory.read m k = Memory.read m (k + 0x2000)
    rw [hlow k (by omega), hlow (k + 0x2000) (by omega)]
    exact h k lo hi
  mbc := fun h => ⟨h.nonzero, h.five_bits⟩
  timer := fun h => ⟨h.div, h.tima⟩
  apu := fun h =>
    { power := by
        rw [State.peek_poke_self, and_power_bit, State.poke_apu, hpower]
      registers := fun off k lo hi => by
        rw [State.peek_poke_of_ne _ _ (by omega)]
        exact (hoff off h).1 k lo hi
      silent := fun off => (hoff off h).2
      clock := hclock h }

/-- The three cases of the power switch (R471). -/
theorem Apu.powerSwitch_cases (u : Apu) (m : Memory) (on : Bool) :
    (u.power = true ∧ on = false ∧ u.powerSwitch m on = (clearApuRegisters m, u.powerOff)) ∨
    (u.power = false ∧ on = true ∧ u.powerSwitch m on = (m, Apu.powerOn)) ∨
    (u.power = on ∧ u.powerSwitch m on = (m, u)) := by
  unfold Apu.powerSwitch
  cases u.power <;> cases on <;> simp

/-- The APU's part of a write to NR52 (R471), after the bus has stored the byte. -/
theorem State.writeNr52_keeps (s : State) (v : Byte) :
    Keeps s ((s.poke 0xFF26 v).writeNr52 v) := by
  have stored := Memory.read_write s.mem 0xFF26 v
  have low : ∀ k, k < 0xFF10 → Memory.read (Memory.write s.mem 0xFF26 v) k = s.peek k :=
    fun k hk => by rw [stored, if_neg (by omega)]; rfl
  have wf : Memory.wf s.mem → Memory.wf (Memory.write s.mem 0xFF26 v) := fun h =>
    Memory.wf_write h _ _
  have below : Memory.below s.mem 0x10000 → Memory.below (Memory.write s.mem 0xFF26 v) 0x10000 :=
    fun h => Memory.below_write h (by omega) _
  unfold State.writeNr52
  dsimp only [State.poke_apu, State.poke_mem]
  rcases s.apu.powerSwitch_cases (Memory.write s.mem 0xFF26 v) (v.getLsbD 7) with
    ⟨hp, hv, h⟩ | ⟨hp, hv, h⟩ | ⟨hp, h⟩ <;> rw [h] <;> dsimp only
  · refine s.nr52_keeps v (clearApuRegisters (Memory.write s.mem 0xFF26 v)) s.apu.powerOff
      (fun h => wf_clearApuRegisters (wf h)) (fun h => below_clearApuRegisters (below h)) ?_
      hv.symm ?_ (fun h => h.clock)
    · intro k hk
      rw [read_clearApuRegisters, if_neg (by omega), low k hk]
    · refine fun _ _ => ⟨fun k lo hi => ?_, Apu.status_powerOff _⟩
      rw [read_clearApuRegisters, if_pos ⟨lo, hi⟩]
  · exact s.nr52_keeps v _ Apu.powerOn wf below low hv.symm
      (fun off => absurd off (by decide)) (fun _ => by decide)
  · refine s.nr52_keeps v _ s.apu wf below low hp ?_ (fun h => h.clock)
    refine fun off h => ⟨fun k lo hi => ?_, h.silent off⟩
    rw [stored, if_neg (by omega)]
    exact h.registers off k lo hi

/-- A bus write in the APU window, after the bus has stored the byte (R83, R471, R473). -/
theorem State.apuWrite_keeps (s : State) {n : Nat} (v : Byte) (lo : 0xFF10 ≤ n) (hi : n ≤ 0xFF3F) :
    Keeps s ((s.poke n v).apuWrite n v) := by
  unfold State.apuWrite
  split
  · next hn => subst hn; exact s.writeNr52_keeps v
  next hn =>
  have stored : StoresOk s → StoresOk (s.poke n v) := fun h => h.poke (by omega) v
  have echo : EchoOk s → EchoOk (s.poke n v) := fun h k klo khi => by
    rw [s.peek_poke_of_ne v (by omega), s.peek_poke_of_ne v (by omega)]
    exact h k klo khi
  by_cases hp : s.apu.power = true
  · rw [if_pos (by simpa using hp)]
    refine ⟨rfl, rfl, rfl, rfl, rfl, rfl, rfl, fun h => ?_, echo, fun h => ⟨h.nonzero, h.five_bits⟩,
      fun h => ⟨h.div, h.tima⟩, fun h => ?_⟩
    · have := stored h
      exact ⟨this.mem_wf, this.mem_below, h.ext_wf, h.ext_below, h.rom_wf, h.rom_below⟩
    · refine ⟨?_, fun off => ?_, fun off => ?_, ?_⟩
      · show (s.poke n v).peek 0xFF26 = _
        simp only [Apu.writeRegister_power, State.poke_apu]
        rw [s.peek_poke_of_ne v (Ne.symm hn)]
        exact h.power
      · simp [Apu.writeRegister_power, hp] at off
      · simp [Apu.writeRegister_power, hp] at off
      · simpa [Apu.writeRegister_fsClock] using h.clock
  · rw [if_neg (by simpa using hp)]
    split
    · refine ⟨rfl, rfl, rfl, rfl, rfl, rfl, rfl, fun h => (stored h).poke (by omega) 0, fun h k klo khi => ?_,
        fun h => ⟨h.nonzero, h.five_bits⟩, fun h => ⟨h.div, h.tima⟩, fun h => ?_⟩
      · rw [State.peek_poke_of_ne (s.poke n v) 0 (by omega),
          State.peek_poke_of_ne (s.poke n v) 0 (by omega)]
        exact echo h k klo khi
      · refine ⟨?_, fun off k klo khi => ?_, h.silent, h.clock⟩
        · rw [State.peek_poke_of_ne _ _ (Ne.symm hn), State.peek_poke_of_ne _ _ (Ne.symm hn)]
          exact h.power
        · simp only [State.peek_poke]
          split
          · rfl
          · exact h.registers off k klo khi
    · next hn' => exact s.poke_keeps v (by omega) (by omega) (by omega)

/-! ### The bus -/

theorem State.dmaFold_keeps (v : Byte) (l : List Nat) (hl : ∀ i ∈ l, i < 0xA0) (s : State) :
    Keeps s (l.foldl (State.dmaByte v) s) := by
  induction l generalizing s with
  | nil => exact Keeps.refl s
  | cons i l ih =>
    have hi := hl i (by simp)
    refine Keeps.trans ?_ (ih (fun j hj => hl j (List.mem_cons_of_mem _ hj)) _)
    exact (s.busTouch_keeps _).trans
      (State.poke_keeps _ _ (by omega) (by omega) (by omega))

theorem State.dma_keeps (s : State) (v : Byte) : Keeps s (s.dma v) :=
  State.dmaFold_keeps v _ (fun _ hi => List.mem_range.mp hi) s

/-- What every bus write keeps. -/
theorem State.busWrite_keeps (s : State) (x : Word) (v : Byte) : Keeps s (s.busWrite x v) := by
  have hx := x.isLt
  unfold State.busWrite
  split
  · exact s.manageWrite_keeps x v
  split
  · exact s.manageWrite_keeps x v
  split
  · next h => exact s.pokePair_keeps v h.1 h.2 (.inl ⟨rfl, rfl⟩)
  split
  · next h =>
    exact s.pokePair_keeps (n := x.toNat - 0x2000) v (by omega) (by omega)
      (.inr ⟨by omega, rfl⟩)
  split
  · refine (s.poke_keeps (n := 0xFF04) 0 (by omega) (by omega) (by omega)).trans ?_
    refine ⟨rfl, rfl, rfl, rfl, rfl, rfl, rfl, fun h => ⟨h.mem_wf, h.mem_below, h.ext_wf, h.ext_below,
      h.rom_wf, h.rom_below⟩, id, fun h => ⟨h.nonzero, h.five_bits⟩, fun h => ⟨by show 0 < 256; omega, h.tima⟩,
      fun h => ⟨h.power, h.registers, h.silent, h.clock⟩⟩
  split
  · next h => exact s.apuWrite_keeps v h.1 h.2
  split
  · exact (s.poke_keeps (n := 0xFF46) v (by omega) (by omega) (by omega)).trans (State.dma_keeps _ v)
  · exact s.poke_keeps v (by omega) (by omega) (by omega)

/-! ### Shared operations -/

theorem State.setOperand_keeps (s : State) (x : Operand8) (v : Byte) : Keeps s (s.setOperand x v) := by
  cases x <;> first | exact Keeps.same | exact s.busWrite_keeps _ v

theorem State.touchOperand_keeps (s : State) (x : Operand8) : Keeps s (s.touchOperand x) := by
  cases x <;> first | exact Keeps.refl s | exact s.busTouch_keeps _

theorem State.setReg16_keeps (s : State) (r : Reg16) (v : Word) : Keeps s (s.setReg16 r v) := by
  cases r <;> exact Keeps.same

theorem State.setReg16Stk_keeps (s : State) (r : Reg16Stk) (v : Word) :
    Keeps s (s.setReg16Stk r v) := by
  cases r <;> exact Keeps.same

theorem State.load_keeps (s : State) (dst src : Operand8) : Keeps s (s.load dst src) :=
  (s.touchOperand_keeps src).trans (State.setOperand_keeps _ _ _)

theorem State.loadA_keeps (s : State) (x : Word) : Keeps s (s.loadA x) :=
  (s.busTouch_keeps x).trans Keeps.same

theorem State.aluWith_keeps (s : State) (op : AluOp) (v : Byte) : Keeps s (s.aluWith op v) :=
  Keeps.same

theorem State.alu_keeps (s : State) (op : AluOp) (x : Operand8) : Keeps s (s.alu op x) :=
  (s.touchOperand_keeps x).trans (State.aluWith_keeps _ _ _)

theorem State.modify_keeps (s : State) (x : Operand8) (r : Flagged 8) : Keeps s (s.modify x r) :=
  ((s.touchOperand_keeps x).trans Keeps.same).trans (State.setOperand_keeps _ _ _)

theorem State.bitTest_keeps (s : State) (b : Nat) (x : Operand8) : Keeps s (s.bitTest b x) :=
  (s.touchOperand_keeps x).trans Keeps.same

theorem State.resetBit_keeps (s : State) (b : Nat) (x : Operand8) : Keeps s (s.resetBit b x) :=
  (s.touchOperand_keeps x).trans (State.setOperand_keeps _ _ _)

theorem State.assertBit_keeps (s : State) (b : Nat) (x : Operand8) : Keeps s (s.assertBit b x) :=
  (s.touchOperand_keeps x).trans (State.setOperand_keeps _ _ _)

theorem State.pushByte_keeps (s : State) (v : Byte) : Keeps s (s.pushByte v) :=
  (show Keeps s { s with sp := s.sp - 1 } from Keeps.same).trans (State.busWrite_keeps _ _ v)

theorem State.push16_keeps (s : State) (v : Word) : Keeps s (s.push16 v) :=
  (s.pushByte_keeps _).trans (State.pushByte_keeps _ _)

theorem State.popByte_keeps (s : State) : Keeps s s.popByte :=
  (s.busTouch_keeps s.sp).trans Keeps.same

theorem State.popped_keeps (s : State) : Keeps s s.popped :=
  s.popByte_keeps.trans (State.popByte_keeps _)

theorem State.ret_keeps (s : State) : Keeps s s.ret := s.popped_keeps.trans Keeps.same

theorem State.call_keeps (s : State) (x : Word) : Keeps s (s.call x) :=
  (s.push16_keeps _).trans Keeps.same

theorem State.busWrite16_keeps (s : State) (x v : Word) : Keeps s (s.busWrite16 x v) :=
  (s.busWrite_keeps x _).trans (State.busWrite_keeps _ _ _)

theorem State.cbExecute_keeps (s : State) (cb : Byte) : Keeps s (s.cbExecute cb) := by
  unfold State.cbExecute
  dsimp only
  split
  · exact (s.modify_keeps _ _).trans Keeps.same
  · exact Keeps.trans (s.bitTest_keeps (cb.extractLsb' 3 3).toNat _) Keeps.same
  · exact (s.resetBit_keeps _ _).trans Keeps.same
  · exact (s.assertBit_keeps _ _).trans Keeps.same

end Sys2Proof.Machine
end

