-- ==== Sys2Proof/Laws/Exec.lean ====
section
/-!
SUPPORT. `exec` group by group: the meaning of every instruction of a group as one equation over the
shared operations; then what every instruction keeps, by the groups.
-/

namespace Sys2Proof.Machine

/-! ### Time -/

/-- The cycles of an instruction in the spec's default tables. -/
def defaultTime (i : Instr) : Nat :=
  match encode i with
  | [] => 0
  | b0 :: rest =>
    if b0 = 0xCB then defaultCbCycles.getD (rest.headD 0).toNat 0 else defaultCycles.getD b0.toNat 0

theorem State.cyclesOf_default {s : State} (h : s.cfg.DefaultCycles) (i : Instr) :
    s.cyclesOf i = defaultTime i := by
  obtain ⟨h, -, hcb⟩ := h
  unfold State.cyclesOf defaultTime
  cases encode i with
  | nil => rfl
  | cons => simp only [State.cost, State.costCb, h, hcb]

/-- A number that the default tables give is the number of `State.time`. -/
theorem State.time_eq {i : Instr} {n : Nat} (h : defaultTime i = n) (s : State) :
    s.time i n = s.cyclesOf i := by
  unfold State.time
  split
  · next d => rw [State.cyclesOf_default d, h]
  · rfl

theorem State.timeTaken_eq {i : Instr} {n : Nat}
    (h : defaultCyclesTaken.getD ((encode i).headD 0).toNat 0 = n) (s : State) :
    s.timeTaken i n = s.cyclesTakenOf i := by
  unfold State.timeTaken
  split
  · next d => rw [State.cyclesTakenOf, State.costTaken, d.2.1, h]
  · rfl

/-! ### The groups -/

/-- Cycles of an instruction that costs more when its operand is in memory. -/
def memCycles (x : Operand8) (reg mem : Nat) : Nat := if x = .indHl then mem else reg

theorem exec_ld (dst src : Operand8) (h : ¬(dst = .indHl ∧ src = .indHl)) (s : State) :
    exec (ldOf dst src) s = .next ((s.load dst src).addCycles
      (s.time (ldOf dst src) (if dst = .indHl ∨ src = .indHl then 8 else 4))) := by
  rw [State.time_eq (by cases dst <;> cases src <;> first | rfl | exact absurd ⟨rfl, rfl⟩ h)]
  cases dst <;> cases src <;> first | rfl | exact absurd ⟨rfl, rfl⟩ h

theorem exec_alu (op : AluOp) (x : Operand8) (s : State) :
    exec (aluOf op x) s =
      .next ((s.alu op x).addCycles (s.time (aluOf op x) (memCycles x 4 8))) := by
  rw [State.time_eq (by cases op <;> cases x <;> rfl)]
  cases op <;> cases x <;> rfl

theorem exec_aluImm (op : AluOp) (d8 : Byte) (s : State) :
    exec (aluImmOf op d8) s =
      .next ((s.aluWith op d8).addCycles (s.time (aluImmOf op d8) 8)) := by
  rw [State.time_eq (by cases op <;> rfl)]
  cases op <;> rfl

theorem exec_inc (x : Operand8) (s : State) :
    exec (incOf x) s =
      .next ((s.inc x).addCycles (s.time (incOf x) (memCycles x 4 12))) := by
  rw [State.time_eq (by cases x <;> rfl)]
  cases x <;> rfl

theorem exec_dec (x : Operand8) (s : State) :
    exec (decOf x) s =
      .next ((s.dec x).addCycles (s.time (decOf x) (memCycles x 4 12))) := by
  rw [State.time_eq (by cases x <;> rfl)]
  cases x <;> rfl

theorem exec_ldImm (x : Operand8) (d8 : Byte) (s : State) :
    exec (ldImmOf x d8) s =
      .next ((s.setOperand x d8).addCycles (s.time (ldImmOf x d8) (memCycles x 8 12))) := by
  rw [State.time_eq (by cases x <;> rfl)]
  cases x <;> rfl

theorem exec_ldImm16 (r : Reg16) (d16 : Word) (s : State) :
    exec (ldImm16Of r d16) s =
      .next ((s.setReg16 r d16).addCycles (s.time (ldImm16Of r d16) 12)) := by
  rw [State.time_eq (by cases r <;> rfl)]
  cases r <;> rfl

theorem exec_addHl (r : Reg16) (s : State) :
    exec (addHlOf r) s =
      .next ((s.addToHl r).addCycles (s.time (addHlOf r) 8)) := by
  rw [State.time_eq (by cases r <;> rfl)]
  cases r <;> rfl

theorem exec_inc16 (r : Reg16) (s : State) :
    exec (inc16Of r) s =
      .next ((s.setReg16 r (s.reg16 r + 1)).addCycles (s.time (inc16Of r) 8)) := by
  rw [State.time_eq (by cases r <;> rfl)]
  cases r <;> rfl

theorem exec_dec16 (r : Reg16) (s : State) :
    exec (dec16Of r) s =
      .next ((s.setReg16 r (s.reg16 r - 1)).addCycles (s.time (dec16Of r) 8)) := by
  rw [State.time_eq (by cases r <;> rfl)]
  cases r <;> rfl

theorem exec_push (r : Reg16Stk) (s : State) :
    exec (pushOf r) s =
      .next ((s.push16 (s.reg16Stk r)).addCycles (s.time (pushOf r) 16)) := by
  rw [State.time_eq (by cases r <;> rfl)]
  cases r <;> rfl

theorem exec_pop (r : Reg16Stk) (s : State) :
    exec (popOf r) s =
      .next ((s.popped.setReg16Stk r s.popValue).addCycles (s.time (popOf r) 12)) := by
  rw [State.time_eq (by cases r <;> rfl)]
  cases r <;> rfl

theorem exec_jrCc (cc : Cond) (e8 : Byte) (s : State) :
    exec (jrCcOf cc e8) s =
      if s.cond cc then .next ((s.jumpRel e8).addCycles (s.timeTaken (jrCcOf cc e8) 12))
      else .next (s.addCycles (s.time (jrCcOf cc e8) 8)) := by
  rw [State.time_eq (by cases cc <;> rfl), State.timeTaken_eq (by cases cc <;> rfl)]
  cases cc <;> rfl

theorem exec_jpCc (cc : Cond) (a16 : Word) (s : State) :
    exec (jpCcOf cc a16) s =
      if s.cond cc then .next ((s.jumpTo a16).addCycles (s.timeTaken (jpCcOf cc a16) 16))
      else .next (s.addCycles (s.time (jpCcOf cc a16) 12)) := by
  rw [State.time_eq (by cases cc <;> rfl), State.timeTaken_eq (by cases cc <;> rfl)]
  cases cc <;> rfl

theorem exec_callCc (cc : Cond) (a16 : Word) (s : State) :
    exec (callCcOf cc a16) s =
      if s.cond cc then .next ((s.call a16).addCycles (s.timeTaken (callCcOf cc a16) 24))
      else .next (s.addCycles (s.time (callCcOf cc a16) 12)) := by
  rw [State.time_eq (by cases cc <;> rfl), State.timeTaken_eq (by cases cc <;> rfl)]
  cases cc <;> rfl

theorem exec_retCc (cc : Cond) (s : State) :
    exec (retCcOf cc) s =
      if s.cond cc then .next ((s.ret).addCycles (s.timeTaken (retCcOf cc) 20))
      else .next (s.addCycles (s.time (retCcOf cc) 8)) := by
  rw [State.time_eq (by cases cc <;> rfl), State.timeTaken_eq (by cases cc <;> rfl)]
  cases cc <;> rfl

theorem exec_rst {y : Nat} (h : y < 8) (s : State) :
    exec (rstOf y) s =
      .next ((s.call (BitVec.ofNat 16 (8 * y))).addCycles (s.time (rstOf y) 16)) := by
  rw [State.time_eq (by interval_cases y <;> rfl)]
  interval_cases y <;> rfl

/-- Cycles of a group-0, `RES` or `SET` instruction behind the prefix, and of `BIT` (R260). -/
def cbCycles (isBit : Bool) (x : Operand8) : Nat :=
  if x = .indHl then if isBit then 12 else 16 else 8

theorem exec_rot (op : RotOp) (x : Operand8) (s : State) :
    exec (rotOf op x) s =
      .next ((s.rot op x).addCycles (s.time (rotOf op x) (cbCycles false x))) := by
  rw [State.time_eq (by cases op <;> cases x <;> rfl)]
  cases op <;> cases x <;> rfl

theorem exec_bit {b : Nat} (h : b < 8) (x : Operand8) (s : State) :
    exec (bitOf b x) s =
      .next ((s.bitTest b x).addCycles (s.time (bitOf b x) (cbCycles true x))) := by
  rw [State.time_eq (by interval_cases b <;> cases x <;> rfl)]
  interval_cases b <;> cases x <;> rfl

theorem exec_res {b : Nat} (h : b < 8) (x : Operand8) (s : State) :
    exec (resOf b x) s =
      .next ((s.resetBit b x).addCycles (s.time (resOf b x) (cbCycles false x))) := by
  rw [State.time_eq (by interval_cases b <;> cases x <;> rfl)]
  interval_cases b <;> cases x <;> rfl

theorem exec_set {b : Nat} (h : b < 8) (x : Operand8) (s : State) :
    exec (setOf b x) s =
      .next ((s.assertBit b x).addCycles (s.time (setOf b x) (cbCycles false x))) := by
  rw [State.time_eq (by interval_cases b <;> cases x <;> rfl)]
  interval_cases b <;> cases x <;> rfl

/-! ### What every instruction keeps -/

theorem Keeps.addCycles {s t : State} (h : Keeps s t) (n : Nat) : Keeps s (t.addCycles n) :=
  h.trans Keeps.same

theorem Keeps.ite {s : State} {c : Prop} [Decidable c] {t u : State} (ht : Keeps s t)
    (hu : Keeps s u) :
    ∃ v, (if c then Host.Outcome.next t else .next u : Host.Outcome State Fault Refusal) = .next v ∧
      Keeps s v := by
  split
  · exact ⟨t, rfl, ht⟩
  · exact ⟨u, rfl, hu⟩

/-- Every instruction answers a next state, and keeps what `Keeps` says. -/
theorem exec_spec (i : Instr) (s : State) : ∃ t, exec i s = .next t ∧ Keeps s t := by
  have same : ∀ {t : State}, Keeps s t → ∀ n, Keeps s (t.addCycles n) := fun h n => h.addCycles n
  have idle : ∀ n, Keeps s (s.addCycles n) := fun n => Keeps.same
  induction i using Instr.byGroup with
  | ld dst src =>
    by_cases h : dst = .indHl ∧ src = .indHl
    · obtain ⟨rfl, rfl⟩ := h
      exact ⟨_, rfl, same (t := { s with halted := true }) Keeps.same _⟩
    · exact ⟨_, exec_ld dst src h s, same (s.load_keeps _ _) _⟩
  | alu op x => exact ⟨_, exec_alu op x s, same (s.alu_keeps _ _) _⟩
  | aluImm op d8 => exact ⟨_, exec_aluImm op d8 s, same (s.aluWith_keeps _ _) _⟩
  | inc x => exact ⟨_, exec_inc x s, same (s.modify_keeps _ _) _⟩
  | dec x => exact ⟨_, exec_dec x s, same (s.modify_keeps _ _) _⟩
  | ldImm x d8 => exact ⟨_, exec_ldImm x d8 s, same (s.setOperand_keeps _ _) _⟩
  | ldImm16 r d16 => exact ⟨_, exec_ldImm16 r d16 s, same (s.setReg16_keeps _ _) _⟩
  | addHl r => exact ⟨_, exec_addHl r s, same (t := s.addToHl r) Keeps.same _⟩
  | inc16 r => exact ⟨_, exec_inc16 r s, same (s.setReg16_keeps _ _) _⟩
  | dec16 r => exact ⟨_, exec_dec16 r s, same (s.setReg16_keeps _ _) _⟩
  | push r => exact ⟨_, exec_push r s, same (s.push16_keeps _) _⟩
  | pop r => exact ⟨_, exec_pop r s, same (s.popped_keeps.trans (State.setReg16Stk_keeps _ _ _)) _⟩
  | jrCc cc e8 => exact exec_jrCc cc e8 s ▸ Keeps.ite (same (t := s.jumpRel e8) Keeps.same _) (idle _)
  | jpCc cc a16 =>
    exact exec_jpCc cc a16 s ▸ Keeps.ite (same (t := s.jumpTo a16) Keeps.same _) (idle _)
  | callCc cc a16 => exact exec_callCc cc a16 s ▸ Keeps.ite (same (s.call_keeps a16) _) (idle _)
  | retCc cc => exact exec_retCc cc s ▸ Keeps.ite (same s.ret_keeps _) (idle _)
  | rst y h => exact ⟨_, exec_rst h s, same (s.call_keeps _) _⟩
  | rot op x => exact ⟨_, exec_rot op x s, same (s.modify_keeps _ _) _⟩
  | bit b h x => exact ⟨_, exec_bit h x s, same (s.bitTest_keeps _ _) _⟩
  | res b h x => exact ⟨_, exec_res h x s, same (s.resetBit_keeps _ _) _⟩
  | set b h x => exact ⟨_, exec_set h x s, same (s.assertBit_keeps _ _) _⟩
  | ldIndA16Sp a16 => exact ⟨_, rfl, same (s.busWrite16_keeps _ _) _⟩
  | ldIndBcA => exact ⟨_, rfl, same (s.busWrite_keeps _ _) _⟩
  | ldIndDeA => exact ⟨_, rfl, same (s.busWrite_keeps _ _) _⟩
  | ldIndHlIncA =>
    exact ⟨_, rfl, same ((s.busWrite_keeps _ _).trans (State.setReg16_keeps _ .hl _)) _⟩
  | ldIndHlDecA =>
    exact ⟨_, rfl, same ((s.busWrite_keeps _ _).trans (State.setReg16_keeps _ .hl _)) _⟩
  | ldAIndBc => exact ⟨_, rfl, same (s.loadA_keeps _) _⟩
  | ldAIndDe => exact ⟨_, rfl, same (s.loadA_keeps _) _⟩
  | ldAIndHlInc => exact ⟨_, rfl, same ((s.loadA_keeps _).trans (State.setReg16_keeps _ .hl _)) _⟩
  | ldAIndHlDec => exact ⟨_, rfl, same ((s.loadA_keeps _).trans (State.setReg16_keeps _ .hl _)) _⟩
  | ldhIndA8A a8 => exact ⟨_, rfl, same (s.busWrite_keeps _ _) _⟩
  | ldhAIndA8 a8 => exact ⟨_, rfl, same (s.loadA_keeps _) _⟩
  | ldIndCA => exact ⟨_, rfl, same (s.busWrite_keeps _ _) _⟩
  | ldAIndC => exact ⟨_, rfl, same (s.loadA_keeps _) _⟩
  | ldIndA16A a16 => exact ⟨_, rfl, same (s.busWrite_keeps _ _) _⟩
  | ldAIndA16 a16 => exact ⟨_, rfl, same (s.loadA_keeps _) _⟩
  | callA16 a16 => exact ⟨_, rfl, same (s.call_keeps _) _⟩
  | ret => exact ⟨_, rfl, same s.ret_keeps _⟩
  | reti =>
    exact ⟨_, rfl, same (s.ret_keeps.trans (t := s.ret) (u := s.returnFromInterrupt) Keeps.same) _⟩
  | prefixCb cb => exact ⟨_, rfl, s.cbExecute_keeps _⟩
  | stop pad =>
    show ∃ t, execStop pad s = .next t ∧ Keeps s t
    unfold execStop
    split
    · exact ⟨_, rfl, Keeps.same⟩
    · exact ⟨_, rfl, Keeps.same⟩
    · exact ⟨_, rfl, Keeps.same⟩
  | _ => exact ⟨_, rfl, Keeps.same⟩

/-- `exec_spec` read from an answer. -/
theorem exec_keeps {i : Instr} {s t : State} (h : exec i s = .next t) : Keeps s t := by
  obtain ⟨u, hu, keeps⟩ := exec_spec i s
  rw [h] at hu
  exact Host.Outcome.next.inj hu ▸ keeps

end Sys2Proof.Machine
end

