-- ==== Sys2Proof/Laws/Control.lean ====
section
/-!
SUPPORT. Which instructions change the run state, the halt and interrupt flags: all but `HALT`, `DI`,
`EI`, `RETI`, `STOP` and the illegal opcodes leave them as they are.
-/

namespace Sys2Proof.Machine

/-- From `s` to `t` the run state and the halt and interrupt flags are the same, and under the policy
`wrap` no overflow mark has appeared. -/
structure SameControl (s t : State) : Prop where
  run : t.run = s.run
  halted : t.halted = s.halted
  ime : t.ime = s.ime
  pendingIE : t.pendingIE = s.pendingIE
  cfg : t.cfg = s.cfg
  mark : s.cfg.pcOverflowPolicy = .wrap → s.pcOverflow = false → t.pcOverflow = false

theorem SameControl.trans {s t u : State} (h : SameControl s t) (k : SameControl t u) :
    SameControl s u where
  run := k.run.trans h.run
  halted := k.halted.trans h.halted
  ime := k.ime.trans h.ime
  pendingIE := k.pendingIE.trans h.pendingIE
  cfg := k.cfg.trans h.cfg
  mark := fun w m => k.mark (h.cfg ▸ w) (h.mark w m)

theorem SameControl.same {s t : State} (run : t.run = s.run := by rfl)
    (halted : t.halted = s.halted := by rfl) (ime : t.ime = s.ime := by rfl)
    (pendingIE : t.pendingIE = s.pendingIE := by rfl) (cfg : t.cfg = s.cfg := by rfl)
    (pcOverflow : t.pcOverflow = s.pcOverflow := by rfl) : SameControl s t where
  run := run
  halted := halted
  ime := ime
  pendingIE := pendingIE
  cfg := cfg
  mark := fun _ m => pcOverflow.trans m

theorem SameControl.refl (s : State) : SameControl s s := SameControl.same

theorem SameControl.addCycles {s t : State} (h : SameControl s t) (n : Nat) :
    SameControl s (t.addCycles n) := h.trans SameControl.same

theorem BusFrame.control {s t : State} (h : BusFrame s t) : SameControl s t :=
  SameControl.same h.run h.halted h.ime h.pendingIE h.cfg h.pcOverflow

theorem State.jumpTo_control (s : State) (x : Word) : SameControl s (s.jumpTo x) where
  run := rfl
  halted := rfl
  ime := rfl
  pendingIE := rfl
  cfg := rfl
  mark := fun _ _ => rfl

theorem State.jumpRel_control (s : State) (e : Byte) : SameControl s (s.jumpRel e) where
  run := rfl
  halted := rfl
  ime := rfl
  pendingIE := rfl
  cfg := rfl
  mark := fun w _ => by simp [State.jumpRel, w]

theorem State.setOperand_control (s : State) (x : Operand8) (v : Byte) :
    SameControl s (s.setOperand x v) := by
  cases x <;> first | exact SameControl.same | exact (s.busWrite_frame _ v).control

theorem State.touchOperand_control (s : State) (x : Operand8) : SameControl s (s.touchOperand x) := by
  cases x <;> first | exact SameControl.refl s | exact (s.busTouch_frame _).bus.control

theorem State.setReg16_control (s : State) (r : Reg16) (v : Word) :
    SameControl s (s.setReg16 r v) := by
  cases r <;> exact SameControl.same

theorem State.setReg16Stk_control (s : State) (r : Reg16Stk) (v : Word) :
    SameControl s (s.setReg16Stk r v) := by
  cases r <;> exact SameControl.same

theorem State.load_control (s : State) (dst src : Operand8) : SameControl s (s.load dst src) :=
  (s.touchOperand_control src).trans (State.setOperand_control _ _ _)

theorem State.loadA_control (s : State) (x : Word) : SameControl s (s.loadA x) :=
  (s.busTouch_frame x).bus.control.trans SameControl.same

theorem State.alu_control (s : State) (op : AluOp) (x : Operand8) : SameControl s (s.alu op x) :=
  (s.touchOperand_control x).trans (u := s.alu op x) SameControl.same

theorem State.modify_control (s : State) (x : Operand8) (r : Flagged 8) :
    SameControl s (s.modify x r) :=
  ((s.touchOperand_control x).trans SameControl.same).trans (State.setOperand_control _ _ _)

theorem State.bitTest_control (s : State) (b : Nat) (x : Operand8) :
    SameControl s (s.bitTest b x) :=
  (s.touchOperand_control x).trans (u := s.bitTest b x) SameControl.same

theorem State.resetBit_control (s : State) (b : Nat) (x : Operand8) :
    SameControl s (s.resetBit b x) :=
  (s.touchOperand_control x).trans (State.setOperand_control _ _ _)

theorem State.assertBit_control (s : State) (b : Nat) (x : Operand8) :
    SameControl s (s.assertBit b x) :=
  (s.touchOperand_control x).trans (State.setOperand_control _ _ _)

theorem State.pushByte_control (s : State) (v : Byte) : SameControl s (s.pushByte v) :=
  (show SameControl s { s with sp := s.sp - 1 } from SameControl.same).trans
    (State.busWrite_frame _ _ v).control

theorem State.push16_control (s : State) (v : Word) : SameControl s (s.push16 v) :=
  (s.pushByte_control _).trans (State.pushByte_control _ _)

theorem State.popByte_control (s : State) : SameControl s s.popByte :=
  (s.busTouch_frame s.sp).bus.control.trans SameControl.same

theorem State.popped_control (s : State) : SameControl s s.popped :=
  s.popByte_control.trans (State.popByte_control _)

theorem State.ret_control (s : State) : SameControl s s.ret :=
  s.popped_control.trans (State.jumpTo_control _ _)

theorem State.call_control (s : State) (x : Word) : SameControl s (s.call x) :=
  (s.push16_control _).trans (State.jumpTo_control _ _)

theorem State.busWrite16_control (s : State) (x v : Word) : SameControl s (s.busWrite16 x v) :=
  (s.busWrite_frame x _).control.trans (State.busWrite_frame _ _ _).control

theorem State.cbExecute_control (s : State) (cb : Byte) : SameControl s (s.cbExecute cb) := by
  unfold State.cbExecute
  dsimp only
  split
  · exact (s.modify_control _ _).addCycles _
  · exact (s.bitTest_control _ _).addCycles _
  · exact (s.resetBit_control _ _).addCycles _
  · exact (s.assertBit_control _ _).addCycles _

/-- The instructions that change the run state or the halt and interrupt flags. -/
def Instr.isControl : Instr → Bool
  | .halt => true
  | .di => true
  | .ei => true
  | .reti => true
  | .stop _ => true
  | .illegal _ => true
  | _ => false

/-- Every other instruction leaves them as they are. -/
theorem exec_control {i : Instr} (hi : Instr.isControl i = false) {s t : State}
    (h : exec i s = .next t) : SameControl s t := by
  have done : ∀ {u : State}, exec i s = .next u → SameControl s u → SameControl s t :=
    fun hu k => by rw [h] at hu; exact Host.Outcome.next.inj hu ▸ k
  have two : ∀ {c : Prop} [Decidable c] {u v : State},
      exec i s = (if c then .next u else .next v) → SameControl s u → SameControl s v →
      SameControl s t := fun {c} _ {u v} hu ku kv => by
    by_cases hc : c
    · exact done (hu.trans (if_pos hc)) ku
    · exact done (hu.trans (if_neg hc)) kv
  have same : ∀ {u : State}, SameControl s u → ∀ n, SameControl s (u.addCycles n) :=
    fun h n => h.addCycles n
  have idle : ∀ n, SameControl s (s.addCycles n) := fun n => SameControl.same
  induction i using Instr.byGroup with
  | ld dst src =>
    by_cases hm : dst = .indHl ∧ src = .indHl
    · obtain ⟨rfl, rfl⟩ := hm
      exact absurd hi (by decide)
    · exact done (exec_ld dst src hm s) (same (s.load_control _ _) _)
  | alu op x => exact done (exec_alu op x s) (same (s.alu_control _ _) _)
  | aluImm op d8 =>
    exact done (exec_aluImm op d8 s) (same (u := s.aluWith op d8) SameControl.same _)
  | inc x => exact done (exec_inc x s) (same (s.modify_control _ _) _)
  | dec x => exact done (exec_dec x s) (same (s.modify_control _ _) _)
  | ldImm x d8 => exact done (exec_ldImm x d8 s) (same (s.setOperand_control _ _) _)
  | ldImm16 r d16 => exact done (exec_ldImm16 r d16 s) (same (s.setReg16_control _ _) _)
  | addHl r => exact done (exec_addHl r s) (same (u := s.addToHl r) SameControl.same _)
  | inc16 r => exact done (exec_inc16 r s) (same (s.setReg16_control _ _) _)
  | dec16 r => exact done (exec_dec16 r s) (same (s.setReg16_control _ _) _)
  | push r => exact done (exec_push r s) (same (s.push16_control _) _)
  | pop r =>
    exact done (exec_pop r s)
      (same (s.popped_control.trans (State.setReg16Stk_control _ _ _)) _)
  | jrCc cc e8 => exact two (exec_jrCc cc e8 s) (same (s.jumpRel_control e8) _) (idle _)
  | jpCc cc a16 => exact two (exec_jpCc cc a16 s) (same (s.jumpTo_control a16) _) (idle _)
  | callCc cc a16 => exact two (exec_callCc cc a16 s) (same (s.call_control a16) _) (idle _)
  | retCc cc => exact two (exec_retCc cc s) (same s.ret_control _) (idle _)
  | rst y hy => exact done (exec_rst hy s) (same (s.call_control _) _)
  | rot op x => exact done (exec_rot op x s) (same (s.modify_control _ _) _)
  | bit b hb x => exact done (exec_bit hb x s) (same (s.bitTest_control _ _) _)
  | res b hb x => exact done (exec_res hb x s) (same (s.resetBit_control _ _) _)
  | set b hb x => exact done (exec_set hb x s) (same (s.assertBit_control _ _) _)
  | ldIndA16Sp a16 => exact done rfl (same (s.busWrite16_control _ _) _)
  | ldIndBcA => exact done rfl (same (s.busWrite_frame _ _).control _)
  | ldIndDeA => exact done rfl (same (s.busWrite_frame _ _).control _)
  | ldIndHlIncA =>
    exact done rfl (same ((s.busWrite_frame _ _).control.trans (State.setReg16_control _ .hl _)) _)
  | ldIndHlDecA =>
    exact done rfl (same ((s.busWrite_frame _ _).control.trans (State.setReg16_control _ .hl _)) _)
  | ldAIndBc => exact done rfl (same (s.loadA_control _) _)
  | ldAIndDe => exact done rfl (same (s.loadA_control _) _)
  | ldAIndHlInc =>
    exact done rfl (same ((s.loadA_control _).trans (State.setReg16_control _ .hl _)) _)
  | ldAIndHlDec =>
    exact done rfl (same ((s.loadA_control _).trans (State.setReg16_control _ .hl _)) _)
  | ldhIndA8A a8 => exact done rfl (same (s.busWrite_frame _ _).control _)
  | ldhAIndA8 a8 => exact done rfl (same (s.loadA_control _) _)
  | ldIndCA => exact done rfl (same (s.busWrite_frame _ _).control _)
  | ldAIndC => exact done rfl (same (s.loadA_control _) _)
  | ldIndA16A a16 => exact done rfl (same (s.busWrite_frame _ _).control _)
  | ldAIndA16 a16 => exact done rfl (same (s.loadA_control _) _)
  | callA16 a16 => exact done rfl (same (s.call_control _) _)
  | ret => exact done rfl (same s.ret_control _)
  | jrE8 e8 => exact done rfl (same (s.jumpRel_control e8) _)
  | jpA16 a16 => exact done rfl (same (s.jumpTo_control a16) _)
  | jpHl => exact done rfl (same (s.jumpTo_control _) _)
  | prefixCb cb => exact done rfl (s.cbExecute_control _)
  | reti => exact absurd hi (by decide)
  | di => exact absurd hi (by decide)
  | ei => exact absurd hi (by decide)
  | stop pad => exact absurd hi (by simp [Instr.isControl])
  | illegal op => exact absurd hi (by simp [Instr.isControl])
  | _ => exact done rfl SameControl.same

end Sys2Proof.Machine
end

