-- ==== Sys2Proof/Laws/Devices.lean ====
section
/-!
SUPPORT. What the device update can do: it leaves every register of the CPU, the cartridge and the
parameters as they are, changes no byte of the array but DIV, TIMA, STAT, LY and IF, clears no bit
of IF (at an address of its own), and keeps memory in its canonical form.
-/

namespace Sys2Proof.Machine

/-- The bytes of the array that the devices write, beside IF. -/
def deviceBytes : List Nat := [0xFF04, 0xFF05, 0xFF41, 0xFF44]

theorem Config.Ok.not_device {p : Config} (h : p.Ok) {n : Nat} (hn : n ∈ deviceBytes) :
    n ≠ p.ifAddr.toNat := by
  simp [deviceBytes] at hn
  rcases h with h | h | h <;> omega

/-- `t` differs from `s` at most in what the device update can change. -/
structure DeviceFrame (s t : State) : Prop where
  a : t.a = s.a
  f : t.f = s.f
  b : t.b = s.b
  c : t.c = s.c
  d : t.d = s.d
  e : t.e = s.e
  h : t.h = s.h
  l : t.l = s.l
  sp : t.sp = s.sp
  pc : t.pc = s.pc
  cycles : t.cycles = s.cycles
  halted : t.halted = s.halted
  ime : t.ime = s.ime
  pendingIE : t.pendingIE = s.pendingIE
  wakePenalty : t.wakePenalty = s.wakePenalty
  pcOverflow : t.pcOverflow = s.pcOverflow
  run : t.run = s.run
  rom : t.rom = s.rom
  mbc : t.mbc = s.mbc
  extRam : t.extRam = s.extRam
  signals : t.signals = s.signals
  inputReads : t.inputReads = s.inputReads
  romDraws : t.romDraws = s.romDraws
  cfg : t.cfg = s.cfg
  peek : ∀ n, n ∉ deviceBytes → n ≠ s.cfg.ifAddr.toNat → t.peek n = s.peek n
  requests : s.cfg.Ok → ∀ i, (s.peek s.cfg.ifAddr.toNat).getLsbD i = true →
    (t.peek s.cfg.ifAddr.toNat).getLsbD i = true
  wf : Memory.wf s.mem → Memory.wf t.mem
  below : Memory.below s.mem 0x10000 → Memory.below t.mem 0x10000

theorem DeviceFrame.refl (s : State) : DeviceFrame s s := by
  constructor <;> first | rfl | exact fun _ _ _ => rfl | exact fun _ _ h => h | exact id

theorem DeviceFrame.trans {s t u : State} (h : DeviceFrame s t) (k : DeviceFrame t u) :
    DeviceFrame s u where
  a := k.a.trans h.a
  f := k.f.trans h.f
  b := k.b.trans h.b
  c := k.c.trans h.c
  d := k.d.trans h.d
  e := k.e.trans h.e
  h := k.h.trans h.h
  l := k.l.trans h.l
  sp := k.sp.trans h.sp
  pc := k.pc.trans h.pc
  cycles := k.cycles.trans h.cycles
  halted := k.halted.trans h.halted
  ime := k.ime.trans h.ime
  pendingIE := k.pendingIE.trans h.pendingIE
  wakePenalty := k.wakePenalty.trans h.wakePenalty
  pcOverflow := k.pcOverflow.trans h.pcOverflow
  run := k.run.trans h.run
  rom := k.rom.trans h.rom
  mbc := k.mbc.trans h.mbc
  extRam := k.extRam.trans h.extRam
  signals := k.signals.trans h.signals
  inputReads := k.inputReads.trans h.inputReads
  romDraws := k.romDraws.trans h.romDraws
  cfg := k.cfg.trans h.cfg
  peek := fun n hn hi => (k.peek n hn (h.cfg ▸ hi)).trans (h.peek n hn hi)
  requests := fun ok i hi => by
    have step := k.requests (h.cfg ▸ ok) i
    rw [h.cfg] at step
    exact step (h.requests ok i hi)
  wf := fun hw => k.wf (h.wf hw)
  below := fun hb => k.below (h.below hb)

/-- A raw store to a device byte other than IF. -/
theorem State.poke_deviceFrame (s : State) {n : Nat} (v : Byte) (hn : n ∈ deviceBytes) :
    DeviceFrame s (s.poke n v) := by
  constructor <;> try rfl
  · exact fun k hk _ => s.peek_poke_of_ne v (fun h => hk (h ▸ hn))
  · intro ok i hi
    rwa [s.peek_poke_of_ne v (Ne.symm (Config.Ok.not_device ok hn))]
  · exact fun hw => Memory.wf_write hw n v
  · refine fun hb => Memory.below_write hb ?_ v
    simp [deviceBytes] at hn
    omega

/-- A request sets one bit of IF and does nothing else (R370). -/
theorem State.requestInterrupt_deviceFrame (s : State) (kind : Nat) :
    DeviceFrame s (s.requestInterrupt kind) := by
  constructor <;> try rfl
  · exact fun k _ hi => s.peek_poke_of_ne _ hi
  · intro _ i hi
    simp only [State.requestInterrupt, State.peek_poke_self, BitVec.getLsbD_or, hi, Bool.true_or]
  · exact fun hw => Memory.wf_write hw _ _
  · exact fun hb => Memory.below_write hb s.cfg.ifAddr.isLt _

/-- A change of the device's own record. -/
theorem State.record_deviceFrame (s : State) (ppu : Ppu) (timer : Timer) (apu : Apu)
    (vblank : Bool) :
    DeviceFrame s { s with ppu := ppu, timer := timer, apu := apu, vblank := vblank } := by
  constructor <;> first | rfl | exact fun _ _ _ => rfl | exact fun _ _ h => h | exact id

/-! ### PPU -/

theorem State.setMode_frame (s : State) (m : PpuMode) : DeviceFrame s (s.setMode m) := by
  unfold State.setMode
  have poked := ((s.record_deviceFrame { s.ppu with mode := m } s.timer s.apu s.vblank).trans
    (State.poke_deviceFrame _ (n := 0xFF41)
      (((s.peek 0xFF41) &&& 0xFC) ||| m.code) (by decide))).trans
    (State.poke_deviceFrame _ (n := 0xFF44) (BitVec.ofNat 8 s.ppu.line) (by decide))
  dsimp only
  split
  · exact poked.trans (State.requestInterrupt_deviceFrame _ 1)
  · exact poked

theorem State.setLine_frame (s : State) (n : Nat) : DeviceFrame s (s.setLine n) := by
  unfold State.setLine
  have lined := (s.record_deviceFrame { s.ppu with line := n } s.timer s.apu s.vblank).trans
    (State.poke_deviceFrame _ (n := 0xFF44) (BitVec.ofNat 8 n) (by decide))
  dsimp only
  repeat' split
  · exact (lined.trans (State.poke_deviceFrame _ _ (by decide))).trans
      (State.requestInterrupt_deviceFrame _ 1)
  · exact lined.trans (State.poke_deviceFrame _ _ (by decide))
  · exact lined.trans (State.poke_deviceFrame _ _ (by decide))

theorem State.endMode_frame (s : State) : DeviceFrame s s.endMode :=
  s.record_deviceFrame _ s.timer s.apu s.vblank

theorem State.scanLine_frame (s : State) : DeviceFrame s s.scanLine :=
  s.record_deviceFrame _ s.timer s.apu s.vblank

theorem State.renderLine_frame (s : State) : DeviceFrame s s.renderLine :=
  s.record_deviceFrame _ s.timer s.apu s.vblank

theorem State.drawWindow_frame (s : State) : DeviceFrame s s.drawWindow := by
  unfold State.drawWindow
  split
  · exact s.record_deviceFrame _ s.timer s.apu s.vblank
  · exact DeviceFrame.refl s

theorem State.enterVblank_frame (s : State) : DeviceFrame s s.enterVblank :=
  (((s.setMode_frame .vblank).trans (State.requestInterrupt_deviceFrame _ 0)).trans
    (State.drawWindow_frame _)).trans (State.record_deviceFrame _ _ _ _ true)

theorem State.leaveMode_frame (s : State) : DeviceFrame s s.leaveMode := by
  unfold State.leaveMode
  have ended := s.endMode_frame
  split
  · exact (ended.trans (State.scanLine_frame _)).trans (State.setMode_frame _ _)
  · exact (ended.trans (State.renderLine_frame _)).trans (State.setMode_frame _ _)
  · dsimp only
    split
    · exact (ended.trans (State.setLine_frame _ _)).trans (State.enterVblank_frame _)
    · exact (ended.trans (State.setLine_frame _ _)).trans (State.setMode_frame _ _)
  · split
    · exact (ended.trans (State.setLine_frame _ _)).trans (State.setMode_frame _ _)
    · exact ended.trans (State.setLine_frame _ _)

theorem State.ppuLoop_frame (n : Nat) (s : State) : DeviceFrame s (State.ppuLoop n s) := by
  induction n generalizing s with
  | zero => exact DeviceFrame.refl s
  | succ n ih =>
    unfold State.ppuLoop
    split
    · exact s.leaveMode_frame.trans (ih _)
    · exact DeviceFrame.refl s

theorem State.ppuUpdate_frame (s : State) (delta : Nat) : DeviceFrame s (s.ppuUpdate delta) := by
  unfold State.ppuUpdate
  dsimp only
  split
  · exact s.record_deviceFrame s.ppu s.timer s.apu false
  · exact (s.record_deviceFrame { s.ppu with modeClock := s.ppu.modeClock + delta } s.timer s.apu
      false).trans (State.ppuLoop_frame _ _)

/-! ### Timer and APU -/

theorem State.dividerUpdate_frame (s : State) (delta : Nat) :
    DeviceFrame s (s.dividerUpdate delta) :=
  (s.record_deviceFrame s.ppu { s.timer with divSub := (s.timer.divSub + delta) % 256 } s.apu
    s.vblank).trans (State.poke_deviceFrame _ _ (by decide))

theorem State.timaTick_frame (s : State) : DeviceFrame s s.timaTick := by
  unfold State.timaTick
  split
  · exact (s.poke_deviceFrame _ (by decide)).trans
      (State.requestInterrupt_deviceFrame _ 2)
  · exact s.poke_deviceFrame _ (by decide)

/-- A function that keeps a transitive and reflexive relation keeps it when iterated. -/
theorem iterate_rel {α : Type} {r : α → α → Prop} {f : α → α} (refl : ∀ x, r x x)
    (trans : ∀ {x y z}, r x y → r y z → r x z) (step : ∀ x, r x (f x)) (n : Nat) (x : α) :
    r x (iterate f n x) := by
  induction n generalizing x with
  | zero => exact refl x
  | succ n ih => exact trans (step x) (ih (f x))

theorem State.timaUpdate_frame (s : State) (delta : Nat) : DeviceFrame s (s.timaUpdate delta) := by
  unfold State.timaUpdate
  dsimp only
  split
  · exact (s.record_deviceFrame s.ppu _ s.apu s.vblank).trans
      (iterate_rel DeviceFrame.refl DeviceFrame.trans State.timaTick_frame _ _)
  · exact DeviceFrame.refl s

theorem State.timerUpdate_frame (s : State) (delta : Nat) : DeviceFrame s (s.timerUpdate delta) :=
  (s.dividerUpdate_frame delta).trans (State.timaUpdate_frame _ delta)

theorem State.apuUpdate_frame (s : State) (delta : Nat) : DeviceFrame s (s.apuUpdate delta) :=
  s.record_deviceFrame s.ppu s.timer _ s.vblank

/-- What the device update can do (R365, R440). -/
theorem State.feedDevices_frame (s : State) (delta : Nat) : DeviceFrame s (s.feedDevices delta) :=
  ((s.ppuUpdate_frame delta).trans (State.timerUpdate_frame _ delta)).trans
    (State.apuUpdate_frame _ delta)

@[simp] theorem State.feedDevices_a (s : State) (n : Nat) :
    (s.feedDevices n).a = s.a := (s.feedDevices_frame n).a

@[simp] theorem State.feedDevices_f (s : State) (n : Nat) :
    (s.feedDevices n).f = s.f := (s.feedDevices_frame n).f

@[simp] theorem State.feedDevices_b (s : State) (n : Nat) :
    (s.feedDevices n).b = s.b := (s.feedDevices_frame n).b

@[simp] theorem State.feedDevices_c (s : State) (n : Nat) :
    (s.feedDevices n).c = s.c := (s.feedDevices_frame n).c

@[simp] theorem State.feedDevices_d (s : State) (n : Nat) :
    (s.feedDevices n).d = s.d := (s.feedDevices_frame n).d

@[simp] theorem State.feedDevices_e (s : State) (n : Nat) :
    (s.feedDevices n).e = s.e := (s.feedDevices_frame n).e

@[simp] theorem State.feedDevices_h (s : State) (n : Nat) :
    (s.feedDevices n).h = s.h := (s.feedDevices_frame n).h

@[simp] theorem State.feedDevices_l (s : State) (n : Nat) :
    (s.feedDevices n).l = s.l := (s.feedDevices_frame n).l

@[simp] theorem State.feedDevices_sp (s : State) (n : Nat) :
    (s.feedDevices n).sp = s.sp := (s.feedDevices_frame n).sp

@[simp] theorem State.feedDevices_pc (s : State) (n : Nat) :
    (s.feedDevices n).pc = s.pc := (s.feedDevices_frame n).pc

@[simp] theorem State.feedDevices_cycles (s : State) (n : Nat) :
    (s.feedDevices n).cycles = s.cycles := (s.feedDevices_frame n).cycles

@[simp] theorem State.feedDevices_halted (s : State) (n : Nat) :
    (s.feedDevices n).halted = s.halted := (s.feedDevices_frame n).halted

@[simp] theorem State.feedDevices_ime (s : State) (n : Nat) :
    (s.feedDevices n).ime = s.ime := (s.feedDevices_frame n).ime

@[simp] theorem State.feedDevices_pendingIE (s : State) (n : Nat) :
    (s.feedDevices n).pendingIE = s.pendingIE := (s.feedDevices_frame n).pendingIE

@[simp] theorem State.feedDevices_wakePenalty (s : State) (n : Nat) :
    (s.feedDevices n).wakePenalty = s.wakePenalty := (s.feedDevices_frame n).wakePenalty

@[simp] theorem State.feedDevices_pcOverflow (s : State) (n : Nat) :
    (s.feedDevices n).pcOverflow = s.pcOverflow := (s.feedDevices_frame n).pcOverflow

@[simp] theorem State.feedDevices_run (s : State) (n : Nat) :
    (s.feedDevices n).run = s.run := (s.feedDevices_frame n).run

@[simp] theorem State.feedDevices_rom (s : State) (n : Nat) :
    (s.feedDevices n).rom = s.rom := (s.feedDevices_frame n).rom

@[simp] theorem State.feedDevices_mbc (s : State) (n : Nat) :
    (s.feedDevices n).mbc = s.mbc := (s.feedDevices_frame n).mbc

@[simp] theorem State.feedDevices_extRam (s : State) (n : Nat) :
    (s.feedDevices n).extRam = s.extRam := (s.feedDevices_frame n).extRam

@[simp] theorem State.feedDevices_signals (s : State) (n : Nat) :
    (s.feedDevices n).signals = s.signals := (s.feedDevices_frame n).signals

@[simp] theorem State.feedDevices_inputReads (s : State) (n : Nat) :
    (s.feedDevices n).inputReads = s.inputReads := (s.feedDevices_frame n).inputReads

@[simp] theorem State.feedDevices_romDraws (s : State) (n : Nat) :
    (s.feedDevices n).romDraws = s.romDraws := (s.feedDevices_frame n).romDraws

@[simp] theorem State.feedDevices_cfg (s : State) (n : Nat) :
    (s.feedDevices n).cfg = s.cfg := (s.feedDevices_frame n).cfg

end Sys2Proof.Machine
end

