-- ==== Sys2Proof/Laws/Flags.lean ====
section
/-!
SUPPORT. The flag byte: its four bits and its empty low nibble.
-/

namespace Sys2Proof.Machine

/-- The flag byte built from four flags has them, and an empty low nibble (R24). -/
theorem flagsAre_packFlags (z n h c : Bool) : FlagsAre (packFlags z n h c) z n h c := by
  unfold FlagsAre
  cases z <;> cases n <;> cases h <;> cases c <;> decide

@[simp] theorem packFlags_z (z n h c : Bool) : (packFlags z n h c).getLsbD 7 = z :=
  (flagsAre_packFlags z n h c).1

@[simp] theorem packFlags_n (z n h c : Bool) : (packFlags z n h c).getLsbD 6 = n :=
  (flagsAre_packFlags z n h c).2.1

@[simp] theorem packFlags_h (z n h c : Bool) : (packFlags z n h c).getLsbD 5 = h :=
  (flagsAre_packFlags z n h c).2.2.1

@[simp] theorem packFlags_c (z n h c : Bool) : (packFlags z n h c).getLsbD 4 = c :=
  (flagsAre_packFlags z n h c).2.2.2.1

end Sys2Proof.Machine
end

