-- ==== Sys2Proof/Laws/HostActions.lean ====
section
/-!
SUPPORT. What the host's actions do: a frame step by step, an interrupt request, and what a loaded image
leaves in the ROM and in the external RAM.
-/

namespace Sys2Proof.Machine

/-! ### A run and a frame, one step at a time -/

theorem run_succ {s t : State} (h : step s = .next t) (k : Nat) :
    Host.Core.run Sys2Proof.core (k + 1) s = Host.Core.run Sys2Proof.core k t := by
  have h' : Sys2Proof.core.step s = .next t := h
  simp only [Host.Core.run, h']

/-- The frame ends in the state a step leads to. -/
theorem runFrameLoop_ends {s t : State} (h : step s = .next t)
    (ended : t.run ≠ .running ∨ t.vblank = true ∨ 70224 ≤ t.cycles) (n : Nat) :
    runFrameLoop (n + 1) s = .next t := by
  rw [runFrameLoop, h]
  exact if_pos ended

/-- The frame goes on from the state a step leads to. -/
theorem runFrameLoop_goes_on {s t : State} (h : step s = .next t)
    (going : ¬ (t.run ≠ .running ∨ t.vblank = true ∨ 70224 ≤ t.cycles)) (n : Nat) :
    runFrameLoop (n + 1) s = runFrameLoop n t := by
  rw [runFrameLoop, h]
  exact if_neg going

/-! ### Requests -/

/-- The byte at any address after an interrupt request. -/
theorem State.peek_requestInterrupt (s : State) (kind n : Nat) :
    (s.requestInterrupt kind).peek n =
      if n = s.cfg.ifAddr.toNat then s.peek s.cfg.ifAddr.toNat ||| BitVec.ofNat 8 (2 ^ kind)
      else s.peek n :=
  s.peek_poke _ _ n

/-! ### Loading -/

/-- The byte at an offset of an image made of a list of bytes. -/
theorem Memory.read_image (bytes : List Byte) (n : Nat) :
    Memory.read (Memory.ofBytes 0 bytes) n = bytes.getD n 0 := by
  simpa only [Nat.zero_add] using Memory.read_ofBytes 0 bytes n

/-- What `loadRam` leaves: the size asked for, and the bytes of the store or zeros. -/
theorem State.loadRam_read (s : State) (size : Nat) (saved : Option (List Byte)) (n : Nat) :
    (s.loadRam size saved).extRam.size = size ∧
    Memory.read (s.loadRam size saved).extRam.data n =
      match saved with
      | none => 0
      | some bytes => if bytes.length = size then bytes.getD n 0 else 0 := by
  unfold State.loadRam
  cases saved with
  | none => exact ⟨rfl, rfl⟩
  | some bytes =>
    dsimp only
    split
    · exact ⟨rfl, Memory.read_image bytes n⟩
    · exact ⟨rfl, rfl⟩

end Sys2Proof.Machine
end

