-- ==== Sys2Proof/Laws/Operands.lean ====
section
/-!
SUPPORT. The operand forms: what reading and writing an operand of table `x[]` leaves, and what the
shared read-change-write operation is on a register and at HL.
-/

namespace Sys2Proof.Machine

@[simp] theorem State.busTouch_hl (s : State) (x : Word) : (s.busTouch x).hl = s.hl := by
  simp [State.hl]

/-- A bus read as an update of the counters of free values. -/
theorem ReadFrame.eq {s t : State} (h : ReadFrame s t) :
    t = { s with inputReads := t.inputReads, romDraws := t.romDraws } := by
  apply State.ext
  case inputReads => rfl
  case romDraws => rfl
  case a => exact h.a
  case f => exact h.f
  case b => exact h.b
  case c => exact h.c
  case d => exact h.d
  case e => exact h.e
  case h => exact h.h
  case l => exact h.l
  case sp => exact h.sp
  case pc => exact h.pc
  case cycles => exact h.cycles
  case halted => exact h.halted
  case ime => exact h.ime
  case pendingIE => exact h.pendingIE
  case wakePenalty => exact h.wakePenalty
  case pcOverflow => exact h.pcOverflow
  case run => exact h.run
  case mem => exact h.mem
  case rom => exact h.rom
  case mbc => exact h.mbc
  case extRam => exact h.extRam
  case timer => exact h.timer
  case ppu => exact h.ppu
  case apu => exact h.apu
  case vblank => exact h.vblank
  case signals => exact h.signals
  case cfg => exact h.cfg

theorem State.touchOperand_frame (s : State) (x : Operand8) : ReadFrame s (s.touchOperand x) := by
  cases x <;> first | exact ReadFrame.refl s | exact s.busTouch_frame _

theorem State.touchOperand_of_ne (s : State) {x : Operand8} (hx : x ≠ .indHl) :
    s.touchOperand x = s := by
  cases x <;> first | rfl | exact absurd rfl hx

/-- A register read back. -/
theorem State.operand_setOperand (s : State) {x : Operand8} (hx : x ≠ .indHl) (v : Byte) :
    (s.setOperand x v).operand x = v := by
  cases x <;> first | rfl | exact absurd rfl hx

/-- Another register. -/
theorem State.operand_setOperand_of_ne (s : State) {x r : Operand8} (hx : x ≠ .indHl)
    (hr : r ≠ .indHl) (hrx : r ≠ x) (v : Byte) : (s.setOperand x v).operand r = s.operand r := by
  cases x <;> first | exact absurd rfl hx | skip
  all_goals cases r <;> first | rfl | exact absurd rfl hr | exact absurd rfl hrx

/-- A register written: no field but the seven byte registers changes. -/
theorem State.setOperand_eq (s : State) {x : Operand8} (hx : x ≠ .indHl) (v : Byte) :
    s.setOperand x v = { s with
      a := (s.setOperand x v).a, b := (s.setOperand x v).b, c := (s.setOperand x v).c
      d := (s.setOperand x v).d, e := (s.setOperand x v).e, h := (s.setOperand x v).h
      l := (s.setOperand x v).l } := by
  cases x <;> first | rfl | exact absurd rfl hx

/-- `modify` at HL: a bus read, then a bus write at the same address, and F (R228 to R231, R260). -/
theorem State.modify_indHl (s : State) (r : Flagged 8) :
    s.modify .indHl r = { (s.busTouch s.hl).busWrite s.hl r.value with f := r.flags } := by
  show { s.busTouch s.hl with f := r.flags }.busWrite (s.busTouch s.hl).hl r.value = _
  rw [State.busTouch_hl, State.busWrite_set_f]

/-- `modify` of a register. -/
theorem State.modify_register (s : State) {x : Operand8} (hx : x ≠ .indHl) (r : Flagged 8) :
    s.modify x r = { s with f := r.flags }.setOperand x r.value := by
  cases x <;> first | rfl | exact absurd rfl hx

theorem State.modify_f (s : State) (x : Operand8) (r : Flagged 8) : (s.modify x r).f = r.flags := by
  cases x <;> first | rfl | exact congrArg State.f (s.modify_indHl r)

/-- A register written on a state that differs from `s` in F and the counters of free values only,
with `n` cycles. -/
theorem registerOnly_setOperand {s u : State} {x : Operand8} (hx : x ≠ .indHl) (v : Byte) (n : Nat)
    (hu : u = { s with f := u.f, inputReads := u.inputReads, romDraws := u.romDraws }) :
    RegisterOnly s ((u.setOperand x v).addCycles n) x n := by
  refine ⟨fun r hrx hr => ?_, ?_⟩
  · have same : ((u.setOperand x v).addCycles n).operand r = (u.setOperand x v).operand r := by
      cases r <;> rfl
    rw [same, u.operand_setOperand_of_ne hx hr hrx, hu]
    cases r <;> first | exact absurd rfl hr | rfl
  · rw [u.setOperand_eq hx, hu]
    rfl

/-- What an instruction that reads, changes and writes back an operand leaves. -/
theorem operandBecomes_modify (s : State) (x : Operand8) (r : Flagged 8) (n : Nat) :
    OperandBecomes s ((s.modify x r).addCycles n) x r.value n := by
  unfold OperandBecomes
  split
  · next h =>
    subst h
    rw [s.modify_indHl]
    simp [State.addCycles]
  · next hx =>
    rw [s.modify_register hx]
    refine ⟨?_, registerOnly_setOperand hx _ n rfl⟩
    have same : ∀ u : State, (u.addCycles n).operand x = u.operand x := by
      intro u
      cases x <;> rfl
    rw [same, State.operand_setOperand _ hx]

/-- What an instruction that writes back an operand and leaves F leaves. -/
theorem operandBecomes_setOperand (s : State) (x : Operand8) (v : Byte) (n : Nat) :
    ((s.touchOperand x).setOperand x v).f = s.f ∧
      OperandBecomes s (((s.touchOperand x).setOperand x v).addCycles n) x v n := by
  unfold OperandBecomes
  split
  · next h =>
    subst h
    have eq : (s.touchOperand .indHl).setOperand .indHl v = (s.busTouch s.hl).busWrite s.hl v := by
      show (s.busTouch s.hl).busWrite (s.busTouch s.hl).hl v = _
      rw [State.busTouch_hl]
    rw [eq]
    simp [State.addCycles]
  · next hx =>
    rw [s.touchOperand_of_ne hx]
    refine ⟨?_, ?_, registerOnly_setOperand hx _ n rfl⟩
    · rw [s.setOperand_eq hx]
    · have same : ∀ u : State, (u.addCycles n).operand x = u.operand x := by
        intro u
        cases x <;> rfl
      rw [same, State.operand_setOperand _ hx]

/-- Page 0xFF (R172 to R175). -/
theorem highPage_eq (n : Byte) : highPage n = mkWord 0xFF n := by
  apply BitVec.eq_of_toNat_eq
  have h := n.isLt
  simp only [highPage, zext16, toNat_mkWord, BitVec.toNat_add, BitVec.truncate_eq_setWidth,
    BitVec.toNat_setWidth]
  simp
  omega

/-- What an operation on A leaves, with its operand read by a bus read or not. -/
theorem accumulatorOnly_alu (s : State) (op : AluOp) (x : Operand8) (n : Nat) :
    AccumulatorOnly s ((s.alu op x).addCycles n) n := by
  unfold AccumulatorOnly State.alu State.aluWith
  rw [(s.touchOperand_frame x).eq]
  rfl

end Sys2Proof.Machine
end

