-- ==== Sys2Proof/Laws/Step.lean ====
section
/-!
SUPPORT. What a fetch can do, and the step by cases: a dispatch, a halted tick, a fatal fetch, or an
executed instruction and what follows it.
-/

namespace Sys2Proof.Machine

/-! ### Fetching -/

/-- `t` differs from `s` at most in PC, its mark, the counters of free values and the run state. -/
structure FetchFrame (s t : State) : Prop where
  a : t.a = s.a
  f : t.f = s.f
  b : t.b = s.b
  c : t.c = s.c
  d : t.d = s.d
  e : t.e = s.e
  h : t.h = s.h
  l : t.l = s.l
  sp : t.sp = s.sp
  cycles : t.cycles = s.cycles
  halted : t.halted = s.halted
  ime : t.ime = s.ime
  pendingIE : t.pendingIE = s.pendingIE
  wakePenalty : t.wakePenalty = s.wakePenalty
  mem : t.mem = s.mem
  rom : t.rom = s.rom
  mbc : t.mbc = s.mbc
  extRam : t.extRam = s.extRam
  timer : t.timer = s.timer
  ppu : t.ppu = s.ppu
  apu : t.apu = s.apu
  vblank : t.vblank = s.vblank
  signals : t.signals = s.signals
  cfg : t.cfg = s.cfg

theorem FetchFrame.refl (s : State) : FetchFrame s s := by constructor <;> rfl

theorem FetchFrame.trans {s t u : State} (h : FetchFrame s t) (k : FetchFrame t u) : FetchFrame s u where
  a := k.a.trans h.a
  f := k.f.trans h.f
  b := k.b.trans h.b
  c := k.c.trans h.c
  d := k.d.trans h.d
  e := k.e.trans h.e
  h := k.h.trans h.h
  l := k.l.trans h.l
  sp := k.sp.trans h.sp
  cycles := k.cycles.trans h.cycles
  halted := k.halted.trans h.halted
  ime := k.ime.trans h.ime
  pendingIE := k.pendingIE.trans h.pendingIE
  wakePenalty := k.wakePenalty.trans h.wakePenalty
  mem := k.mem.trans h.mem
  rom := k.rom.trans h.rom
  mbc := k.mbc.trans h.mbc
  extRam := k.extRam.trans h.extRam
  timer := k.timer.trans h.timer
  ppu := k.ppu.trans h.ppu
  apu := k.apu.trans h.apu
  vblank := k.vblank.trans h.vblank
  signals := k.signals.trans h.signals
  cfg := k.cfg.trans h.cfg

theorem ReadFrame.fetch {s t : State} (h : ReadFrame s t) : FetchFrame s t where
  a := h.a
  f := h.f
  b := h.b
  c := h.c
  d := h.d
  e := h.e
  h := h.h
  l := h.l
  sp := h.sp
  cycles := h.cycles
  halted := h.halted
  ime := h.ime
  pendingIE := h.pendingIE
  wakePenalty := h.wakePenalty
  mem := h.mem
  rom := h.rom
  mbc := h.mbc
  extRam := h.extRam
  timer := h.timer
  ppu := h.ppu
  apu := h.apu
  vblank := h.vblank
  signals := h.signals
  cfg := h.cfg

theorem FetchFrame.keeps {s t : State} (h : FetchFrame s t) : Keeps s t :=
  Keeps.same h.mem h.rom h.cfg h.ppu h.vblank h.wakePenalty h.mbc h.extRam h.timer h.apu

/-- The two outcomes of a fetch (R23, R99). -/
theorem State.fetch8_cases (s : State) :
    (∃ r, StopReason.isFatal r = true ∧ s.fetch8 = .fatal (s.raise r)) ∨
      s.fetch8 = .ok (s.busRead s.pc) (s.busTouch s.pc).advancePc := by
  unfold State.fetch8
  split
  · exact .inl ⟨_, rfl, rfl⟩
  split
  · exact .inl ⟨_, rfl, rfl⟩
  · exact .inr rfl

/-- What a fetch that succeeds leaves. -/
structure FetchOk (s t : State) : Prop where
  frame : FetchFrame s t
  run : t.run = s.run
  mark : s.cfg.pcOverflowPolicy = .wrap → s.pcOverflow = false → t.pcOverflow = false

theorem FetchOk.refl (s : State) : FetchOk s s := ⟨FetchFrame.refl s, rfl, fun _ h => h⟩

theorem FetchOk.trans {s t u : State} (h : FetchOk s t) (k : FetchOk t u) : FetchOk s u :=
  ⟨h.frame.trans k.frame, k.run.trans h.run, fun w m => k.mark (h.frame.cfg ▸ w) (h.mark w m)⟩

/-- What a fetch that fails leaves: the bytes fetched before it stay fetched (R352). -/
structure FetchFatal (s t : State) : Prop where
  frame : FetchFrame s t
  run : ∃ r, StopReason.isFatal r = true ∧ t.run = .stopped r
  mark : s.cfg.pcOverflowPolicy = .wrap → s.pcOverflow = false → t.pcOverflow = false

theorem State.advancePc_ok (s : State) : FetchOk s s.advancePc := by
  refine ⟨by constructor <;> rfl, rfl, fun w m => ?_⟩
  simp [State.advancePc, w, m]

theorem State.fetch8_ok {s t : State} {v : Byte} (h : s.fetch8 = .ok v t) :
    v = s.busRead s.pc ∧ t = (s.busTouch s.pc).advancePc ∧ FetchOk s t := by
  rcases s.fetch8_cases with ⟨r, -, hf⟩ | hf <;> rw [hf] at h
  · cases h
  · cases h
    refine ⟨rfl, rfl, FetchOk.trans (t := s.busTouch s.pc) ?_ (State.advancePc_ok _)⟩
    exact ⟨(s.busTouch_frame _).fetch, by simp, fun _ m => by simpa using m⟩

theorem State.fetch8_fatal {s t : State} (h : s.fetch8 = .fatal t) : FetchFatal s t := by
  rcases s.fetch8_cases with ⟨r, hr, hf⟩ | hf <;> rw [hf] at h
  · cases h
    exact ⟨by constructor <;> rfl, ⟨r, hr, rfl⟩, fun _ m => m⟩
  · cases h

theorem FetchOk.fatal {s t u : State} (h : FetchOk s t) (k : FetchFatal t u) : FetchFatal s u :=
  ⟨h.frame.trans k.frame, k.run, fun w m => k.mark (h.frame.cfg ▸ w) (h.mark w m)⟩

/-- An instruction fetched: what it is and what its fetch leaves. -/
theorem State.fetchInstr_ok {s t : State} {i : Instr} (h : s.fetchInstr = .ok i t) :
    (∃ b0 b1 b2, i = s.cfg.decode b0 b1 b2) ∧ FetchOk s t := by
  unfold State.fetchInstr at h
  split at h
  · cases h
  next op s1 h1 =>
  have ok1 := (State.fetch8_ok h1).2.2
  split at h
  · cases h
    exact ⟨⟨_, _, _, rfl⟩, ok1⟩
  split at h
  · cases h
  next b1 s2 h2 =>
  have ok2 := ok1.trans (State.fetch8_ok h2).2.2
  split at h
  · cases h
    exact ⟨⟨_, _, _, rfl⟩, ok2⟩
  split at h
  · cases h
  next b2 s3 h3 =>
  cases h
  exact ⟨⟨_, _, _, rfl⟩, ok2.trans (State.fetch8_ok h3).2.2⟩

theorem State.fetchInstr_fatal {s t : State} (h : s.fetchInstr = .fatal t) : FetchFatal s t := by
  unfold State.fetchInstr at h
  split at h
  · next u hu => cases h; exact State.fetch8_fatal hu
  next op s1 h1 =>
  have ok1 := (State.fetch8_ok h1).2.2
  split at h
  · cases h
  split at h
  · next u hu => cases h; exact ok1.fatal (State.fetch8_fatal hu)
  next b1 s2 h2 =>
  have ok2 := ok1.trans (State.fetch8_ok h2).2.2
  split at h
  · cases h
  split at h
  · next u hu => cases h; exact ok2.fatal (State.fetch8_fatal hu)
  · cases h

/-! ### The step -/

/-- How a step can answer a next state (R360). -/
inductive StepCase (s t : State) : Prop where
  | dispatch (takes : s.takesInterrupt = true) (eq : t = s.dispatch.feedSince s.cycles)
  | tick (none : s.takesInterrupt = false) (halted : s.halted = true)
      (eq : t = s.haltedTick.feedSince s.cycles)
  | fatal (none : s.takesInterrupt = false) (awake : s.halted = false)
      (fetch : s.fetchInstr = .fatal t)
  | instr (none : s.takesInterrupt = false) (awake : s.halted = false) (i : Instr) (u v : State)
      (fetch : s.fetchInstr = .ok i u) (run : exec i u = .next v)
      (eq : t = v.settle s.pendingIE s.cycles)

/-- The step by cases. -/
theorem step_cases {s t : State} (h : step s = .next t) : s.run = .running ∧ StepCase s t := by
  unfold step iteration at h
  split at h
  · cases h
  next live =>
  refine ⟨live, ?_⟩
  split at h
  · next takes => cases h; exact .dispatch takes rfl
  next none =>
  have none : s.takesInterrupt = false := by simpa using none
  split at h
  · next halted => cases h; exact .tick none halted rfl
  next awake =>
  have awake : s.halted = false := by simpa using awake
  unfold State.executeOne at h
  split at h
  · next u hu => cases h; exact .fatal none awake hu
  next i u hu =>
  obtain ⟨v, hv, -⟩ := exec_spec i u
  rw [hv] at h
  cases h
  exact .instr none awake i u v hu hv rfl

/-- A live core that takes no interrupt and is not halted executes an instruction. -/
theorem step_executes {s : State} (live : s.run = .running) (none : s.takesInterrupt = false)
    (awake : s.halted = false) : step s = s.executeOne := by
  unfold step iteration
  rw [live]
  simp [none, awake]

theorem step_of_stopped {s : State} {r : StopReason} (h : s.run = .stopped r) :
    step s = .fault r.fault := by
  unfold step iteration
  rw [h]

/-- What the end of an instruction leaves but F, the cycle counter and the interrupt flags. -/
theorem State.finishInstr_keeps (s : State) (promote : Bool) :
    Keeps { s with wakePenalty := false } { s.finishInstr promote with wakePenalty := false } := by
  unfold State.finishInstr State.promoteEnable State.payWakePenalty
  repeat' split
  all_goals exact Keeps.same

end Sys2Proof.Machine
end

