-- ==== Sys2Proof/Laws/Stores.lean ====
section
/-!
SUPPORT. Where the instructions store, group by group, and what the shared operations leave of
memory and of the devices.
-/

namespace Sys2Proof.Machine

/-! ### Store addresses by group -/

theorem storeAddrs_ld (dst src : Operand8) (s : State) :
    storeAddrs (ldOf dst src) s = if dst = .indHl ∧ src ≠ .indHl then [s.hl] else [] := by
  cases dst <;> cases src <;> rfl

theorem storeAddrs_alu (op : AluOp) (x : Operand8) (s : State) : storeAddrs (aluOf op x) s = [] := by
  cases op <;> cases x <;> rfl

theorem storeAddrs_aluImm (op : AluOp) (d8 : Byte) (s : State) :
    storeAddrs (aluImmOf op d8) s = [] := by
  cases op <;> rfl

theorem storeAddrs_inc (x : Operand8) (s : State) :
    storeAddrs (incOf x) s = if x = .indHl then [s.hl] else [] := by
  cases x <;> rfl

theorem storeAddrs_dec (x : Operand8) (s : State) :
    storeAddrs (decOf x) s = if x = .indHl then [s.hl] else [] := by
  cases x <;> rfl

theorem storeAddrs_ldImm (x : Operand8) (d8 : Byte) (s : State) :
    storeAddrs (ldImmOf x d8) s = if x = .indHl then [s.hl] else [] := by
  cases x <;> rfl

theorem storeAddrs_ldImm16 (r : Reg16) (d16 : Word) (s : State) :
    storeAddrs (ldImm16Of r d16) s = [] := by
  cases r <;> rfl

theorem storeAddrs_addHl (r : Reg16) (s : State) : storeAddrs (addHlOf r) s = [] := by
  cases r <;> rfl

theorem storeAddrs_inc16 (r : Reg16) (s : State) : storeAddrs (inc16Of r) s = [] := by
  cases r <;> rfl

theorem storeAddrs_dec16 (r : Reg16) (s : State) : storeAddrs (dec16Of r) s = [] := by
  cases r <;> rfl

theorem storeAddrs_push (r : Reg16Stk) (s : State) :
    storeAddrs (pushOf r) s = [s.sp - 1, s.sp - 2] := by
  cases r <;> rfl

theorem storeAddrs_pop (r : Reg16Stk) (s : State) : storeAddrs (popOf r) s = [] := by
  cases r <;> rfl

theorem storeAddrs_jrCc (cc : Cond) (e8 : Byte) (s : State) : storeAddrs (jrCcOf cc e8) s = [] := by
  cases cc <;> rfl

theorem storeAddrs_jpCc (cc : Cond) (a16 : Word) (s : State) :
    storeAddrs (jpCcOf cc a16) s = [] := by
  cases cc <;> rfl

theorem storeAddrs_callCc (cc : Cond) (a16 : Word) (s : State) :
    storeAddrs (callCcOf cc a16) s = if s.cond cc then [s.sp - 1, s.sp - 2] else [] := by
  cases cc <;> rfl

theorem storeAddrs_retCc (cc : Cond) (s : State) : storeAddrs (retCcOf cc) s = [] := by
  cases cc <;> rfl

theorem storeAddrs_rst {y : Nat} (h : y < 8) (s : State) :
    storeAddrs (rstOf y) s = [s.sp - 1, s.sp - 2] := by
  interval_cases y <;> rfl

theorem storeAddrs_rot (op : RotOp) (x : Operand8) (s : State) :
    storeAddrs (rotOf op x) s = if x = .indHl then [s.hl] else [] := by
  cases op <;> cases x <;> rfl

theorem storeAddrs_bit {b : Nat} (h : b < 8) (x : Operand8) (s : State) :
    storeAddrs (bitOf b x) s = [] := by
  interval_cases b <;> cases x <;> rfl

theorem storeAddrs_res {b : Nat} (h : b < 8) (x : Operand8) (s : State) :
    storeAddrs (resOf b x) s = if x = .indHl then [s.hl] else [] := by
  interval_cases b <;> cases x <;> rfl

theorem storeAddrs_set {b : Nat} (h : b < 8) (x : Operand8) (s : State) :
    storeAddrs (setOf b x) s = if x = .indHl then [s.hl] else [] := by
  interval_cases b <;> cases x <;> rfl

/-! ### What a list of stores leaves -/

/-- From `s` to `t` no byte and no device changed that a bus write at one of the addresses could not
change, and if there is no address no byte and no device. -/
structure Stores (addrs : List Word) (s t : State) : Prop where
  peek : ∀ n, (∀ x ∈ addrs, ¬ storedBytes x n) → t.peek n = s.peek n
  controller : (∀ x ∈ addrs, 0x8000 ≤ x.toNat) → t.mbc = s.mbc ∧ t.signals = s.signals
  extRam : (∀ x ∈ addrs, x.toNat < 0xA000 ∨ 0xBFFF < x.toNat) → t.extRam = s.extRam
  timer : (∀ x ∈ addrs, x.toNat ≠ 0xFF04) → t.timer = s.timer
  apu : (∀ x ∈ addrs, x.toNat < 0xFF10 ∨ 0xFF3F < x.toNat) → t.apu = s.apu
  none : addrs = [] → t.mem = s.mem ∧ SameDevices s t

/-- States that agree on memory and the devices. -/
theorem Stores.same {s t : State} (addrs : List Word) (mem : t.mem = s.mem := by rfl)
    (timer : t.timer = s.timer := by rfl) (ppu : t.ppu = s.ppu := by rfl)
    (apu : t.apu = s.apu := by rfl) (mbc : t.mbc = s.mbc := by rfl)
    (extRam : t.extRam = s.extRam := by rfl) (rom : t.rom = s.rom := by rfl)
    (cfg : t.cfg = s.cfg := by rfl) (vblank : t.vblank = s.vblank := by rfl)
    (signals : t.signals = s.signals := by rfl) : Stores addrs s t where
  peek := fun n _ => by rw [State.peek, mem]; rfl
  controller := fun _ => ⟨mbc, signals⟩
  extRam := fun _ => extRam
  timer := fun _ => timer
  apu := fun _ => apu
  none := fun _ => ⟨mem, timer, ppu, apu, mbc, extRam, rom, cfg, vblank, signals⟩

theorem ReadFrame.stores {s t : State} (h : ReadFrame s t) (addrs : List Word) : Stores addrs s t :=
  Stores.same addrs h.mem h.timer h.ppu h.apu h.mbc h.extRam h.rom h.cfg h.vblank h.signals

/-- One operation after another: the stores of both. -/
theorem Stores.append {as bs : List Word} {s t u : State} (h : Stores as s t) (k : Stores bs t u) :
    Stores (as ++ bs) s u where
  peek := fun n hn => (k.peek n (fun x hx => hn x (List.mem_append_right _ hx))).trans
    (h.peek n (fun x hx => hn x (List.mem_append_left _ hx)))
  controller := fun hn => by
    have first := h.controller (fun x hx => hn x (List.mem_append_left _ hx))
    have second := k.controller (fun x hx => hn x (List.mem_append_right _ hx))
    exact ⟨second.1.trans first.1, second.2.trans first.2⟩
  extRam := fun hn => (k.extRam (fun x hx => hn x (List.mem_append_right _ hx))).trans
    (h.extRam (fun x hx => hn x (List.mem_append_left _ hx)))
  timer := fun hn => (k.timer (fun x hx => hn x (List.mem_append_right _ hx))).trans
    (h.timer (fun x hx => hn x (List.mem_append_left _ hx)))
  apu := fun hn => (k.apu (fun x hx => hn x (List.mem_append_right _ hx))).trans
    (h.apu (fun x hx => hn x (List.mem_append_left _ hx)))
  none := fun e => by
    obtain ⟨rfl, rfl⟩ := List.append_eq_nil_iff.mp e
    obtain ⟨m, a1, a2, a3, a4, a5, a6, a7, a8, a9⟩ := h.none rfl
    obtain ⟨m', b1, b2, b3, b4, b5, b6, b7, b8, b9⟩ := k.none rfl
    exact ⟨m'.trans m, b1.trans a1, b2.trans a2, b3.trans a3, b4.trans a4, b5.trans a5, b6.trans a6,
      b7.trans a7, b8.trans a8, b9.trans a9⟩

/-- An operation that stores nothing may come first or last. -/
theorem Stores.after {addrs : List Word} {s t u : State} (h : Stores [] s t)
    (k : Stores addrs t u) : Stores addrs s u := h.append k

theorem Stores.before {addrs : List Word} {s t u : State} (h : Stores addrs s t)
    (k : Stores [] t u) : Stores addrs s u := by simpa using h.append k

theorem Stores.addCycles {addrs : List Word} {s t : State} (h : Stores addrs s t) (n : Nat) :
    Stores addrs s (t.addCycles n) := h.before (Stores.same [])

end Sys2Proof.Machine
end

