-- ==== Sys2Proof/Tests/Slice0.lean ====
section
/-!
SUPPORT. Tests. Expected results come from the spec: the decode words from the encodings of R129 to
R133, the vectors V, S, B, D, T, A and P from spec/95_test_vectors.md, the rest from the rule named. At
the end stands a witness for the hypotheses of each statement that has hypotheses.
-/

namespace Sys2Proof.Tests

open Sys2Proof.Machine

/-! ### Well-formed instructions -/

/-- `ILLEGAL` takes the 11 bytes of R134 only. -/
theorem test_wellFormed_refuses_illegal_of_another_byte :
    ¬ (Instr.illegal 0x00).WellFormed ∧ ¬ (Instr.illegal 0xCB).WellFormed ∧
      ¬ (Instr.illegal 0xFF).WellFormed := by decide

/-- The prefix is not an instruction by itself (R336). -/
theorem test_wellFormed_refuses_prefix : ¬ (Instr.prefixCb 0x00).WellFormed := by decide

theorem test_wellFormed_accepts :
    (Instr.illegal 0xD3).WellFormed ∧ (Instr.illegal 0xFD).WellFormed ∧
      (Instr.ldHlD16 0xFFFF).WellFormed ∧ Instr.halt.WellFormed := by decide

/-! ### Decoding: words written out from R129 to R133 -/

/-- Block 1: 01 yyy zzz; y = 0 is B, z = 1 is C. -/
theorem test_decode_ld_b_c : decode 0b01000001 0 0 = .ldBC := by decide

/-- 01 110 110 is HALT, not LD (HL),(HL). -/
theorem test_decode_halt : decode 0b01110110 0 0 = .halt := by decide

/-- 00 100 110 d8: LD H,d8. -/
theorem test_decode_ld_h_d8 : decode 0b00100110 0x9A 0 = .ldHD8 0x9A := by decide

/-- 00 10 0001: LD HL,d16, low byte first. -/
theorem test_decode_ld_hl_d16 : decode 0b00100001 0x34 0x12 = .ldHlD16 0x1234 := by decide

/-- 11 11 0101: PUSH AF. -/
theorem test_decode_push_af : decode 0b11110101 0 0 = .pushAf := by decide

/-- Block 2: 10 011 100 is SBC A,H. -/
theorem test_decode_sbc_a_h : decode 0b10011100 0 0 = .sbcAH := by decide

/-- 11 111 110 d8: CP d8. -/
theorem test_decode_cp_d8 : decode 0b11111110 0x40 0 = .cpD8 0x40 := by decide

/-- 00 11 1001: ADD HL,SP. -/
theorem test_decode_add_hl_sp : decode 0b00111001 0 0 = .addHlSp := by decide

/-- 00 011 111: RRA. -/
theorem test_decode_rra : decode 0b00011111 0 0 = .rra := by decide

/-- 0xCB, 00 110 111: SWAP A. -/
theorem test_decode_swap_a : decode 0xCB 0b00110111 0 = .swapA := by decide

/-- 0xCB, 11 011 110: SET 3,(HL). -/
theorem test_decode_set_3_hl : decode 0xCB 0b11011110 0 = .set3IndHl := by decide

/-- 00 110 000 e8: JR NC,e8. -/
theorem test_decode_jr_nc : decode 0b00110000 0xFC 0 = .jrNcE8 0xFC := by decide

/-- 11 011 100 a16: CALL C,a16. -/
theorem test_decode_call_c : decode 0b11011100 0x00 0x80 = .callCA16 0x8000 := by decide

/-- 11 101 111: RST 0x28. -/
theorem test_decode_rst_28 : decode 0b11101111 0 0 = .rst28 := by decide

/-- 00 010 000 and a padding byte: STOP. -/
theorem test_decode_stop : decode 0b00010000 0x00 0 = .stop 0x00 := by decide

/-- 11 011 101 is one of the illegal opcodes. -/
theorem test_decode_illegal : decode 0b11011101 0 0 = .illegal 0xDD := by decide

/-- A byte string that ends inside an instruction is no instruction. -/
theorem test_decode_truncated : decodeBytes [0x21, 0x34] = .error .truncated := by decide

/-- The opcode table's own words: `LD B,d8` (one byte of the two), `SWAP A` and the prefix row. -/
theorem test_decodeTableWord :
    decodeTableWord 8 0x06 = some (.ldBD8 0x00) ∧ decodeTableWord 16 0xCB37 = some .swapA ∧
      decodeTableWord 8 0xCB = some (.prefixCb 0x00) := by decide

/-! ### Helpers -/

/-- The state of the vectors' conventions: reset, F clear, code at an address. -/
def codeAt (pc : Word) (bytes : List Byte) : State :=
  let s := { State.reset with f := 0, pc := pc }
  if pc.toNat < 0x8000 then { s with rom := { size := 0x8000, data := Memory.ofBytes pc.toNat bytes } }
  else { s with mem := Memory.ofBytes pc.toNat bytes }

/-- Code in work RAM. -/
def code (bytes : List Byte) : State := codeAt 0xC000 bytes

/-- One step leads to a next state in which the fields looked at have these values. -/
def leads {α : Type} [DecidableEq α] (s : State) (view : State → α) (v : α) : Bool :=
  match step s with
  | .next t => decide (view t = v)
  | _ => false

/-! ### One instruction each: vectors V -/

/-- LD B,C (R160; vector V1). -/
theorem test_ld_b_c_v1 : leads
    { code [0x41] with b := 0x12, c := 0x34 }
    (fun t => (t.b, t.c, t.f, t.pc, t.cycles))
    (0x34, 0x34, 0x00, 0xC001, 4) = true := by decide

/-- LD A,(HL) (R161; vector V3). -/
theorem test_ld_a_hl_v3 : leads
    { (code [0x7E]).poke 0xC100 0x5A with h := 0xC1, l := 0x00 }
    (fun t => (t.a, t.pc, t.cycles))
    (0x5A, 0xC001, 8) = true := by decide

/-- LD H,(HL) (R161; vector V4). -/
theorem test_ld_h_hl_v4 : leads
    { (code [0x66]).poke 0xC100 0x5A with h := 0xC1, l := 0x00 }
    (fun t => (t.h, t.l, t.pc, t.cycles))
    (0x5A, 0x00, 0xC001, 8) = true := by decide

/-- LD (HL),B (R162; vector V5). -/
theorem test_ld_hl_b_v5 : leads
    { codeAt 0xD000 [0x70] with h := 0xC1, l := 0x23, b := 0x99 }
    (fun t => (t.peek 0xC123, t.peek 0xE123, t.pc, t.cycles))
    (0x99, 0x99, 0xD001, 8) = true := by decide

/-- LD A,d8 (R163; vector V7). -/
theorem test_ld_a_d8_v7 : leads (code [0x3E, 0x42]) (fun t => (t.a, t.pc, t.cycles))
    (0x42, 0xC002, 8) = true := by decide

/-- LD (HL),d8 (R164; vector V8). -/
theorem test_ld_hl_d8_v8 : leads
    { code [0x36, 0x07] with h := 0xFF, l := 0x80 }
    (fun t => (t.peek 0xFF80, t.pc, t.cycles))
    (0x07, 0xC002, 12) = true := by decide

/-- LD A,(a16) (R169; vector V9). -/
theorem test_ld_a_a16_v9 : leads
    ((code [0xFA, 0x44, 0xFF]).poke 0xFF44 0x55)
    (fun t => (t.a, t.pc, t.cycles))
    (0x55, 0xC003, 16) = true := by decide

/-- LD (a16),A (R170; vector V10). -/
theorem test_ld_a16_a_v10 : leads
    { code [0xEA, 0x00, 0xC1] with a := 0x9C }
    (fun t => (t.peek 0xC100, t.peek 0xE100, t.pc, t.cycles))
    (0x9C, 0x9C, 0xC003, 16) = true := by decide

/-- LDH A,(a8) (R172; vector V11). -/
theorem test_ldh_a_a8_v11 : leads
    ((code [0xF0, 0x0F]).poke 0xFF0F 0x05)
    (fun t => (t.a, t.pc, t.cycles))
    (0x05, 0xC002, 12) = true := by decide

/-- LDH (a8),A to DIV (R173; vector V12). -/
theorem test_ldh_a8_a_to_div_v12 : leads
    { (code [0xE0, 0x04]).poke 0xFF04 0x33 with a := 0x77 }
    (fun t => (t.peek 0xFF04, t.pc, t.cycles))
    (0x00, 0xC002, 12) = true := by decide

/-- LD A,(C) (R174; vector V14). -/
theorem test_ld_a_c_v14 : leads
    { (code [0xF2]).poke 0xFF80 0x33 with c := 0x80 }
    (fun t => (t.a, t.pc, t.cycles))
    (0x33, 0xC001, 8) = true := by decide

/-- LD (C),A (R175; vector V15). -/
theorem test_ld_c_a_v15 : leads
    { code [0xE2] with c := 0xFF, a := 0x01 }
    (fun t => (t.peek 0xFFFF, t.pc, t.cycles))
    (0x01, 0xC001, 8) = true := by decide

/-- LD (HL+),A (R176; vector V16). -/
theorem test_ld_hlinc_a_v16 : leads
    { code [0x22] with h := 0x9F, l := 0xFF, a := 0x3C }
    (fun t => (t.peek 0x9FFF, t.h, t.l, t.pc, t.cycles))
    (0x3C, 0xA0, 0x00, 0xC001, 8) = true := by decide

/-- LD (HL+),A at top (R176; vector V17). -/
theorem test_ld_hlinc_a_at_top_v17 : leads
    { code [0x22] with h := 0xFF, l := 0xFF, a := 0x3C }
    (fun t => (t.peek 0xFFFF, t.h, t.l, t.pc, t.cycles))
    (0x3C, 0x00, 0x00, 0xC001, 8) = true := by decide

/-- LD A,(HL-) (R179; vector V18). -/
theorem test_ld_a_hldec_v18 : leads
    { (code [0x3A]).poke 0xD000 0xAB with h := 0xD0, l := 0x00 }
    (fun t => (t.a, t.h, t.l, t.pc, t.cycles))
    (0xAB, 0xCF, 0xFF, 0xC001, 8) = true := by decide

/-- LD HL,d16 (R190; vector V20). -/
theorem test_ld_hl_d16_v20 : leads (code [0x21, 0x34, 0x12]) (fun t => (t.h, t.l, t.pc, t.cycles))
    (0x12, 0x34, 0xC003, 12) = true := by decide

/-- LD SP,d16 (R190; vector V21). -/
theorem test_ld_sp_d16_v21 : leads (code [0x31, 0x00, 0xD0]) (fun t => (t.sp, t.pc, t.cycles))
    (0xD000, 0xC003, 12) = true := by decide

/-- LD (a16),SP (R191; vector V22). -/
theorem test_ld_a16_sp_v22 : leads
    { code [0x08, 0x00, 0xC1] with sp := 0xDFF0 }
    (fun t => (t.peek 0xC100, t.peek 0xC101, t.pc, t.cycles))
    (0xF0, 0xDF, 0xC003, 20) = true := by decide

/-- LD SP,HL (R192; vector V23). -/
theorem test_ld_sp_hl_v23 : leads
    { code [0xF9] with h := 0xD0, l := 0x00 }
    (fun t => (t.sp, t.pc, t.cycles))
    (0xD000, 0xC001, 8) = true := by decide

/-- LD HL,SP+e8 (R193; vector V24). -/
theorem test_ld_hl_spince8_v24 : leads
    { code [0xF8, 0x08] with sp := 0xFFF8 }
    (fun t => (t.h, t.l, t.f, t.sp, t.pc, t.cycles))
    (0x00, 0x00, 0x30, 0xFFF8, 0xC002, 12) = true := by decide

/-- LD HL,SP+e8 (e = -1) (R193; vector V26). -/
theorem test_ld_hl_spince8_e_1_v26 : leads
    { code [0xF8, 0xFF] with sp := 0x0000 }
    (fun t => (t.h, t.l, t.f, t.pc, t.cycles))
    (0xFF, 0xFF, 0x00, 0xC002, 12) = true := by decide

/-- PUSH BC (R194; vector V29). -/
theorem test_push_bc_v29 : leads
    { code [0xC5] with sp := 0xFFFE, b := 0x12, c := 0x34 }
    (fun t => (t.peek 0xFFFD, t.peek 0xFFFC, t.sp, t.pc, t.cycles))
    (0x12, 0x34, 0xFFFC, 0xC001, 16) = true := by decide

/-- PUSH AF (R194; vector V30). -/
theorem test_push_af_v30 : leads
    { code [0xF5] with sp := 0xD100, a := 0x12, f := 0xB0 }
    (fun t => (t.peek 0xD0FF, t.peek 0xD0FE, t.sp, t.pc, t.cycles))
    (0x12, 0xB0, 0xD0FE, 0xC001, 16) = true := by decide

/-- POP AF (R195; vector V31). -/
theorem test_pop_af_v31 : leads
    { ((codeAt 0xD000 [0xF1]).poke 0xC000 0xFF).poke 0xC001 0x12 with sp := 0xC000 }
    (fun t => (t.a, t.f, t.sp, t.pc, t.cycles))
    (0x12, 0xF0, 0xC002, 0xD001, 12) = true := by decide

/-- POP BC (R195; vector V32). -/
theorem test_pop_bc_v32 : leads
    { ((codeAt 0xD000 [0xC1]).poke 0xC000 0x34).poke 0xC001 0x12 with sp := 0xC000 }
    (fun t => (t.b, t.c, t.sp, t.pc, t.cycles))
    (0x12, 0x34, 0xC002, 0xD001, 12) = true := by decide

/-- PUSH HL with SP = 0x0001 (wraps) (R194; vector V33). -/
theorem test_push_hl_with_sp_0x0001_wraps_v33 : leads
    { code [0xE5] with sp := 0x0001, h := 0xAB, l := 0xCD }
    (fun t => (t.peek 0xFFFF, t.sp, t.pc, t.cycles))
    (0xCD, 0xFFFF, 0xC001, 16) = true := by decide

/-- ADD A,B (R212; vector V40). -/
theorem test_add_a_b_v40 : leads
    { code [0x80] with a := 0x3A, b := 0xC6 }
    (fun t => (t.a, t.f, t.pc, t.cycles))
    (0x00, 0xB0, 0xC001, 4) = true := by decide

/-- ADD A,A (R212; vector V43). -/
theorem test_add_a_a_v43 : leads
    { code [0x87] with a := 0x88 }
    (fun t => (t.a, t.f, t.pc, t.cycles))
    (0x10, 0x30, 0xC001, 4) = true := by decide

/-- ADD A,d8 (R213; vector V44). -/
theorem test_add_a_d8_v44 : leads
    { code [0xC6, 0xFF] with a := 0x3C }
    (fun t => (t.a, t.f, t.pc, t.cycles))
    (0x3B, 0x30, 0xC002, 8) = true := by decide

/-- ADC A,E (R214; vector V45). -/
theorem test_adc_a_e_v45 : leads
    { code [0x8B] with a := 0xE1, e := 0x0F, f := 0x10 }
    (fun t => (t.a, t.f, t.pc, t.cycles))
    (0xF1, 0x20, 0xC001, 4) = true := by decide

/-- ADC A,d8 (R215; vector V49). -/
theorem test_adc_a_d8_v49 : leads
    { code [0xCE, 0x3B] with a := 0xE1, f := 0x10 }
    (fun t => (t.a, t.f, t.pc, t.cycles))
    (0x1D, 0x10, 0xC002, 8) = true := by decide

/-- SUB E (R216; vector V50). -/
theorem test_sub_e_v50 : leads
    { code [0x93] with a := 0x3E, e := 0x3E }
    (fun t => (t.a, t.f, t.pc, t.cycles))
    (0x00, 0xC0, 0xC001, 4) = true := by decide

/-- SUB B (R216; vector V52). -/
theorem test_sub_b_v52 : leads
    { code [0x90] with a := 0x10, b := 0x01 }
    (fun t => (t.a, t.f, t.pc, t.cycles))
    (0x0F, 0x60, 0xC001, 4) = true := by decide

/-- SUB d8 (R217; vector V53). -/
theorem test_sub_d8_v53 : leads
    { code [0xD6, 0x0F] with a := 0x3E }
    (fun t => (t.a, t.f, t.pc, t.cycles))
    (0x2F, 0x60, 0xC002, 8) = true := by decide

/-- SBC A,H (R218; vector V54). -/
theorem test_sbc_a_h_v54 : leads
    { code [0x9C] with a := 0x3B, h := 0x2A, f := 0x10 }
    (fun t => (t.a, t.f, t.pc, t.cycles))
    (0x10, 0x40, 0xC001, 4) = true := by decide

/-- SBC A,B (R218; vector V56). -/
theorem test_sbc_a_b_v56 : leads
    { code [0x98] with a := 0x10, b := 0x0F, f := 0x10 }
    (fun t => (t.a, t.f, t.pc, t.cycles))
    (0x00, 0xE0, 0xC001, 4) = true := by decide

/-- SBC A,d8 (R219; vector V58). -/
theorem test_sbc_a_d8_v58 : leads
    { code [0xDE, 0x3A] with a := 0x3B, f := 0x10 }
    (fun t => (t.a, t.f, t.pc, t.cycles))
    (0x00, 0xC0, 0xC002, 8) = true := by decide

/-- AND L (R220; vector V59). -/
theorem test_and_l_v59 : leads
    { code [0xA5] with a := 0x5A, l := 0x3F }
    (fun t => (t.a, t.f, t.pc, t.cycles))
    (0x1A, 0x20, 0xC001, 4) = true := by decide

/-- AND d8 (R221; vector V60). -/
theorem test_and_d8_v60 : leads
    { code [0xE6, 0x00] with a := 0x5A, f := 0x10 }
    (fun t => (t.a, t.f, t.pc, t.cycles))
    (0x00, 0xA0, 0xC002, 8) = true := by decide

/-- XOR B (R222; vector V61). -/
theorem test_xor_b_v61 : leads
    { code [0xA8] with a := 0xFF, b := 0x0F, f := 0xF0 }
    (fun t => (t.a, t.f, t.pc, t.cycles))
    (0xF0, 0x00, 0xC001, 4) = true := by decide

/-- OR C (R224; vector V63). -/
theorem test_or_c_v63 : leads
    { code [0xB1] with a := 0x5A, c := 0x03 }
    (fun t => (t.a, t.f, t.pc, t.cycles))
    (0x5B, 0x00, 0xC001, 4) = true := by decide

/-- OR d8 (R225; vector V64). -/
theorem test_or_d8_v64 : leads
    { code [0xF6, 0x00] with a := 0x00 }
    (fun t => (t.a, t.f, t.pc, t.cycles))
    (0x00, 0x80, 0xC002, 8) = true := by decide

/-- CP B (R226; vector V65). -/
theorem test_cp_b_v65 : leads
    { code [0xB8] with a := 0x3C, b := 0x2F }
    (fun t => (t.a, t.f, t.pc, t.cycles))
    (0x3C, 0x60, 0xC001, 4) = true := by decide

/-- CP d8 (R227; vector V66). -/
theorem test_cp_d8_v66 : leads
    { code [0xFE, 0x40] with a := 0x3C }
    (fun t => (t.a, t.f, t.pc, t.cycles))
    (0x3C, 0x50, 0xC002, 8) = true := by decide

/-- INC B (R228; vector V68). -/
theorem test_inc_b_v68 : leads
    { code [0x04] with b := 0xFF, f := 0x10 }
    (fun t => (t.b, t.f, t.pc, t.cycles))
    (0x00, 0xB0, 0xC001, 4) = true := by decide

/-- DEC L (R230; vector V70). -/
theorem test_dec_l_v70 : leads
    { code [0x2D] with l := 0x01, f := 0x10 }
    (fun t => (t.l, t.f, t.pc, t.cycles))
    (0x00, 0xD0, 0xC001, 4) = true := by decide

/-- DEC B (R230; vector V72). -/
theorem test_dec_b_v72 : leads { code [0x05] with b := 0x10 } (fun t => (t.b, t.f, t.pc, t.cycles))
    (0x0F, 0x60, 0xC001, 4) = true := by decide

/-- DAA after ADD (R232; vector V73). -/
theorem test_daa_after_add_v73 : leads
    { code [0x27] with a := 0x7D, f := 0x00 }
    (fun t => (t.a, t.f, t.pc, t.cycles))
    (0x83, 0x00, 0xC001, 4) = true := by decide

/-- DAA (R232; vector V75). -/
theorem test_daa_v75 : leads
    { code [0x27] with a := 0x9A, f := 0x00 }
    (fun t => (t.a, t.f, t.pc, t.cycles))
    (0x00, 0x90, 0xC001, 4) = true := by decide

/-- CPL (R233; vector V79). -/
theorem test_cpl_v79 : leads
    { code [0x2F] with a := 0x35, f := 0x90 }
    (fun t => (t.a, t.f, t.pc, t.cycles))
    (0xCA, 0xF0, 0xC001, 4) = true := by decide

/-- SCF (R234; vector V80). -/
theorem test_scf_v80 : leads { code [0x37] with f := 0xE0 } (fun t => (t.f, t.pc, t.cycles))
    (0x90, 0xC001, 4) = true := by decide

/-- CCF (R235; vector V81). -/
theorem test_ccf_v81 : leads { code [0x3F] with f := 0x70 } (fun t => (t.f, t.pc, t.cycles))
    (0x00, 0xC001, 4) = true := by decide

/-- CCF (R235; vector V82). -/
theorem test_ccf_v82 : leads { code [0x3F] with f := 0x80 } (fun t => (t.f, t.pc, t.cycles))
    (0x90, 0xC001, 4) = true := by decide

/-- INC (HL) (R229; vector V83). -/
theorem test_inc_hl_v83 : leads
    { (code [0x34]).poke 0xC100 0xFF with h := 0xC1, l := 0x00, f := 0x10 }
    (fun t => (t.peek 0xC100, t.f, t.pc, t.cycles))
    (0x00, 0xB0, 0xC001, 12) = true := by decide

/-- DEC (HL) (R231; vector V84). -/
theorem test_dec_hl_v84 : leads
    { (code [0x35]).poke 0xC100 0x00 with h := 0xC1, l := 0x00 }
    (fun t => (t.peek 0xC100, t.f, t.pc, t.cycles))
    (0xFF, 0x60, 0xC001, 12) = true := by decide

/-- ADD A,(HL) (R212; vector V85). -/
theorem test_add_a_hl_v85 : leads
    { (code [0x86]).poke 0xC100 0xFF with a := 0x01, h := 0xC1, l := 0x00 }
    (fun t => (t.a, t.f, t.pc, t.cycles))
    (0x00, 0xB0, 0xC001, 8) = true := by decide

/-- ADD HL,BC (R250; vector V90). -/
theorem test_add_hl_bc_v90 : leads
    { code [0x09] with h := 0x8A, l := 0x23, b := 0x06, c := 0x05, f := 0x80 }
    (fun t => (t.h, t.l, t.f, t.pc, t.cycles))
    (0x90, 0x28, 0xA0, 0xC001, 8) = true := by decide

/-- ADD HL,HL (R250; vector V93). -/
theorem test_add_hl_hl_v93 : leads
    { code [0x29] with h := 0x88, l := 0x00, f := 0x40 }
    (fun t => (t.h, t.l, t.f, t.pc, t.cycles))
    (0x10, 0x00, 0x30, 0xC001, 8) = true := by decide

/-- ADD HL,SP (R250; vector V94). -/
theorem test_add_hl_sp_v94 : leads
    { code [0x39] with h := 0x00, l := 0x01, sp := 0xFFFF }
    (fun t => (t.h, t.l, t.f, t.pc, t.cycles))
    (0x00, 0x00, 0x30, 0xC001, 8) = true := by decide

/-- INC DE (R251; vector V95). -/
theorem test_inc_de_v95 : leads
    { code [0x13] with d := 0xFF, e := 0xFF, f := 0xF0 }
    (fun t => (t.d, t.e, t.f, t.pc, t.cycles))
    (0x00, 0x00, 0xF0, 0xC001, 8) = true := by decide

/-- DEC BC (R252; vector V96). -/
theorem test_dec_bc_v96 : leads
    { code [0x0B] with b := 0x00, c := 0x00 }
    (fun t => (t.b, t.c, t.f, t.pc, t.cycles))
    (0xFF, 0xFF, 0x00, 0xC001, 8) = true := by decide

/-- ADD SP,e8 (R253; vector V97). -/
theorem test_add_sp_e8_v97 : leads
    { code [0xE8, 0x02] with sp := 0xFFF8, f := 0x80 }
    (fun t => (t.sp, t.f, t.pc, t.cycles))
    (0xFFFA, 0x00, 0xC002, 16) = true := by decide

/-- ADD SP,e8 (e = -2) (R253; vector V98). -/
theorem test_add_sp_e8_e_2_v98 : leads
    { code [0xE8, 0xFE] with sp := 0xFFFE }
    (fun t => (t.sp, t.f, t.pc, t.cycles))
    (0xFFFC, 0x30, 0xC002, 16) = true := by decide

/-- RLCA (R261; vector V100). -/
theorem test_rlca_v100 : leads
    { code [0x07] with a := 0x85, f := 0x80 }
    (fun t => (t.a, t.f, t.pc, t.cycles))
    (0x0B, 0x10, 0xC001, 4) = true := by decide

/-- RLCA (result zero, Z stays 0) (R261; vector V101). -/
theorem test_rlca_result_zero_z_stays_0_v101 : leads
    { code [0x07] with a := 0x00, f := 0x80 }
    (fun t => (t.a, t.f, t.pc, t.cycles))
    (0x00, 0x00, 0xC001, 4) = true := by decide

/-- RRCA (R262; vector V102). -/
theorem test_rrca_v102 : leads { code [0x0F] with a := 0x3B } (fun t => (t.a, t.f, t.pc, t.cycles))
    (0x9D, 0x10, 0xC001, 4) = true := by decide

/-- RLA (R263; vector V103). -/
theorem test_rla_v103 : leads
    { code [0x17] with a := 0x95, f := 0x10 }
    (fun t => (t.a, t.f, t.pc, t.cycles))
    (0x2B, 0x10, 0xC001, 4) = true := by decide

/-- RRA (R264; vector V104). -/
theorem test_rra_v104 : leads { code [0x1F] with a := 0x81 } (fun t => (t.a, t.f, t.pc, t.cycles))
    (0x40, 0x10, 0xC001, 4) = true := by decide

/-- RLC B (R265; vector V105). -/
theorem test_rlc_b_v105 : leads
    { code [0xCB, 0x00] with b := 0x85 }
    (fun t => (t.b, t.f, t.pc, t.cycles))
    (0x0B, 0x10, 0xC002, 8) = true := by decide

/-- RRC C (R266; vector V107). -/
theorem test_rrc_c_v107 : leads
    { code [0xCB, 0x09] with c := 0x01 }
    (fun t => (t.c, t.f, t.pc, t.cycles))
    (0x80, 0x10, 0xC002, 8) = true := by decide

/-- RL L (R267; vector V108). -/
theorem test_rl_l_v108 : leads
    { code [0xCB, 0x15] with l := 0x80 }
    (fun t => (t.l, t.f, t.pc, t.cycles))
    (0x00, 0x90, 0xC002, 8) = true := by decide

/-- RR A (R268; vector V109). -/
theorem test_rr_a_v109 : leads
    { code [0xCB, 0x1F] with a := 0x01 }
    (fun t => (t.a, t.f, t.pc, t.cycles))
    (0x00, 0x90, 0xC002, 8) = true := by decide

/-- RR A (carry in) (R268; vector V110). -/
theorem test_rr_a_carry_in_v110 : leads
    { code [0xCB, 0x1F] with a := 0x00, f := 0x10 }
    (fun t => (t.a, t.f, t.pc, t.cycles))
    (0x80, 0x00, 0xC002, 8) = true := by decide

/-- SLA D (R269; vector V111). -/
theorem test_sla_d_v111 : leads
    { code [0xCB, 0x22] with d := 0xFF }
    (fun t => (t.d, t.f, t.pc, t.cycles))
    (0xFE, 0x10, 0xC002, 8) = true := by decide

/-- SRA A (R270; vector V112). -/
theorem test_sra_a_v112 : leads
    { code [0xCB, 0x2F] with a := 0x8A }
    (fun t => (t.a, t.f, t.pc, t.cycles))
    (0xC5, 0x00, 0xC002, 8) = true := by decide

/-- SWAP A (R271; vector V114). -/
theorem test_swap_a_v114 : leads
    { code [0xCB, 0x37] with a := 0xF1, f := 0xF0 }
    (fun t => (t.a, t.f, t.pc, t.cycles))
    (0x1F, 0x00, 0xC002, 8) = true := by decide

/-- SRL A (R272; vector V116). -/
theorem test_srl_a_v116 : leads
    { code [0xCB, 0x3F] with a := 0xFF }
    (fun t => (t.a, t.f, t.pc, t.cycles))
    (0x7F, 0x10, 0xC002, 8) = true := by decide

/-- BIT 7,A (R273; vector V117). -/
theorem test_bit_7_a_v117 : leads
    { code [0xCB, 0x7F] with a := 0x80 }
    (fun t => (t.a, t.f, t.pc, t.cycles))
    (0x80, 0x20, 0xC002, 8) = true := by decide

/-- BIT 0,(HL) (R273; vector V119). -/
theorem test_bit_0_hl_v119 : leads
    { (code [0xCB, 0x46]).poke 0xC100 0x01 with h := 0xC1, l := 0x00 }
    (fun t => (t.peek 0xC100, t.f, t.pc, t.cycles))
    (0x01, 0x20, 0xC002, 12) = true := by decide

/-- RES 7,A (R274; vector V120). -/
theorem test_res_7_a_v120 : leads
    { code [0xCB, 0xBF] with a := 0x80, f := 0x50 }
    (fun t => (t.a, t.f, t.pc, t.cycles))
    (0x00, 0x50, 0xC002, 8) = true := by decide

/-- SET 3,(HL) (R275; vector V121). -/
theorem test_set_3_hl_v121 : leads
    { (code [0xCB, 0xDE]).poke 0xC100 0x00 with h := 0xC1, l := 0x00 }
    (fun t => (t.peek 0xC100, t.f, t.pc, t.cycles))
    (0x08, 0x00, 0xC002, 16) = true := by decide

/-- RLC (HL) (R265; vector V122). -/
theorem test_rlc_hl_v122 : leads
    { (code [0xCB, 0x06]).poke 0xC100 0x80 with h := 0xC1, l := 0x00 }
    (fun t => (t.peek 0xC100, t.f, t.pc, t.cycles))
    (0x01, 0x10, 0xC002, 16) = true := by decide

/-- JP a16 (R301; vector V130). -/
theorem test_jp_a16_v130 : leads (code [0xC3, 0x50, 0x01]) (fun t => (t.pc, t.cycles))
    (0x0150, 16) = true := by decide

/-- JP Z,a16 taken (R302; vector V131). -/
theorem test_jp_z_a16_taken_v131 : leads
    { code [0xCA, 0x00, 0x80] with f := 0x80 }
    (fun t => (t.pc, t.cycles))
    (0x8000, 16) = true := by decide

/-- JP Z,a16 not taken (R302; vector V132). -/
theorem test_jp_z_a16_not_taken_v132 : leads
    { code [0xCA, 0x00, 0x80] with f := 0x00 }
    (fun t => (t.pc, t.cycles))
    (0xC003, 12) = true := by decide

/-- JP HL (R303; vector V133). -/
theorem test_jp_hl_v133 : leads
    { code [0xE9] with h := 0xC2, l := 0x00 }
    (fun t => (t.pc, t.cycles))
    (0xC200, 4) = true := by decide

/-- JR e8 (source scenario 2) (R304; vector V134). -/
theorem test_jr_e8_source_scenario_2_v134 : leads
    (codeAt 0x0FFF [0x18, 0x0A])
    (fun t => (t.pc, t.cycles))
    (0x100B, 12) = true := by decide

/-- JR e8, e = 0x80 (R304; vector V138). -/
theorem test_jr_e8_e_0x80_v138 : leads (code [0x18, 0x80]) (fun t => (t.pc, t.cycles))
    (0xBF82, 12) = true := by decide

/-- JR NZ,e8 taken (R305; vector V139). -/
theorem test_jr_nz_e8_taken_v139 : leads
    { codeAt 0x0200 [0x20, 0xFC] with f := 0x00 }
    (fun t => (t.pc, t.cycles))
    (0x01FE, 12) = true := by decide

/-- JR NZ,e8 not taken (R305; vector V140). -/
theorem test_jr_nz_e8_not_taken_v140 : leads
    { codeAt 0x0200 [0x20, 0xFC] with f := 0x80 }
    (fun t => (t.pc, t.cycles))
    (0x0202, 8) = true := by decide

/-- CALL a16 (R306; vector V142). -/
theorem test_call_a16_v142 : leads
    { codeAt 0x0150 [0xCD, 0x00, 0x20] with sp := 0xFFFE }
    (fun t => (t.peek 0xFFFD, t.peek 0xFFFC, t.sp, t.pc, t.cycles))
    (0x01, 0x53, 0xFFFC, 0x2000, 24) = true := by decide

/-- CALL C,a16 taken (R307; vector V144). -/
theorem test_call_c_a16_taken_v144 : leads
    { code [0xDC, 0x00, 0x20] with sp := 0xD100, f := 0x10 }
    (fun t => (t.peek 0xD0FF, t.peek 0xD0FE, t.sp, t.pc, t.cycles))
    (0xC0, 0x03, 0xD0FE, 0x2000, 24) = true := by decide

/-- RET (R308; vector V145). -/
theorem test_ret_v145 : leads
    { ((code [0xC9]).poke 0xFFFC 0x53).poke 0xFFFD 0x01 with sp := 0xFFFC }
    (fun t => (t.sp, t.pc, t.cycles))
    (0xFFFE, 0x0153, 16) = true := by decide

/-- RET Z not taken (R309; vector V146). -/
theorem test_ret_z_not_taken_v146 : leads
    { code [0xC8] with f := 0x00, sp := 0xD000 }
    (fun t => (t.sp, t.pc, t.cycles))
    (0xD000, 0xC001, 8) = true := by decide

/-- RET Z taken (R309; vector V147). -/
theorem test_ret_z_taken_v147 : leads
    { ((code [0xC8]).poke 0xD000 0x34).poke 0xD001 0x12 with f := 0x80, sp := 0xD000 }
    (fun t => (t.sp, t.pc, t.cycles))
    (0xD002, 0x1234, 20) = true := by decide

/-- RETI (R310; vector V148). -/
theorem test_reti_v148 : leads
    { ((code [0xD9]).poke 0xD000 0x34).poke 0xD001 0x02 with sp := 0xD000 }
    (fun t => (t.sp, t.ime, t.pendingIE, t.pc, t.cycles))
    (0xD002, true, false, 0x0234, 16) = true := by decide

/-- RST 0x28 (R311; vector V149). -/
theorem test_rst_0x28_v149 : leads
    { codeAt 0x0300 [0xEF] with sp := 0xD000 }
    (fun t => (t.peek 0xCFFF, t.peek 0xCFFE, t.sp, t.pc, t.cycles))
    (0x03, 0x01, 0xCFFE, 0x0028, 16) = true := by decide

/-- NOP (R331; vector V160). -/
theorem test_nop_v160 : leads
    { codeAt 0x0100 [0x00] with f := 0xB0 }
    (fun t => (t.f, t.pc, t.cycles))
    (0xB0, 0x0101, 4) = true := by decide

/-- HALT (R332; vector V161). -/
theorem test_halt_v161 : leads (codeAt 0x0200 [0x76]) (fun t => (t.halted, t.pc, t.cycles))
    (true, 0x0201, 4) = true := by decide

/-- STOP (STOP_POLICY = stuck) (R333; vector V162). -/
theorem test_stop_stop_policy_stuck_v162 : leads
    (codeAt 0x0150 [0x10, 0x00])
    (fun t => (t.run, t.pc, t.cycles))
    (Run.stopped .stopInstruction, 0x0152, 4) = true := by decide

/-- DI (R334; vector V163). -/
theorem test_di_v163 : leads
    { code [0xF3] with ime := true }
    (fun t => (t.ime, t.pendingIE, t.pc, t.cycles))
    (false, false, 0xC001, 4) = true := by decide

/-- EI (R335; vector V164). -/
theorem test_ei_v164 : leads
    { code [0xFB] with ime := false }
    (fun t => (t.ime, t.pendingIE, t.pc, t.cycles))
    (false, true, 0xC001, 4) = true := by decide

/-- ILLEGAL 0xDD (R337; vector V165). -/
theorem test_illegal_0xdd_v165 : leads (code [0xDD]) (fun t => (t.run, t.pc, t.cycles))
    (Run.stopped (.unknownOpcode 0xDD 0xC000), 0xC001, 0) = true := by decide

/-! ### Interrupts, `EI`, `HALT`: vectors S -/

/-- S1: a V-blank request wakes a halted core and is dispatched. -/
theorem test_dispatch_from_halt_s1 : leads
    { ((code []).poke 0xFF0F 0x01).poke 0xFFFF 0x01 with halted := true, ime := true, pc := 0xC001 }
    (fun t => ((t.pc, t.sp, t.ime, t.halted), t.peek 0xFF0F, t.peek 0xFFFD, t.peek 0xFFFC, t.cycles))
    ((0x0040, 0xFFFC, false, false), 0x00, 0xC0, 0x01, 20) = true := by decide

/-- S2, second iteration: the instruction after `EI` runs, then IME is on. -/
theorem test_enable_after_next_s2 : leads
    { ((code [0x00]).poke 0xFF0F 0x01).poke 0xFFFF 0x01 with pendingIE := true }
    (fun t => (t.pc, t.ime, t.pendingIE, t.peek 0xFF0F)) (0xC001, true, false, 0x01) = true := by
  decide

/-- S3: `DI` after `EI` cancels it. -/
theorem test_di_cancels_s3 : leads { code [0xF3] with pendingIE := true }
    (fun t => (t.ime, t.pendingIE)) (false, false) = true := by decide

/-- S4: a second `EI` is consumed by the first one's promotion. -/
theorem test_ei_ei_s4 : leads { code [0xFB] with pendingIE := true }
    (fun t => (t.ime, t.pendingIE)) (true, false) = true := by decide

/-- S5: `HALT` after `EI` halts and enables. -/
theorem test_ei_halt_s5 : leads { code [0x76] with pendingIE := true }
    (fun t => (t.halted, t.ime, t.pendingIE, t.pc)) (true, true, false, 0xC001) = true := by decide

/-- S6: the lowest-numbered request that is enabled wins. -/
theorem test_priority_s6 : leads
    { ((code [0x00]).poke 0xFF0F 0x1F).poke 0xFFFF 0x14 with ime := true }
    (fun t => (t.pc, t.peek 0xFF0F, t.ime, t.cycles, t.sp)) (0x0050, 0x1B, false, 20, 0xFFFC)
    = true := by decide

/-- S7: the upper bits of IF are no requests. -/
theorem test_upper_bits_s7 : leads
    { ((code [0x00]).poke 0xFF0F 0xE0).poke 0xFFFF 0xFF with ime := true }
    (fun t => (t.pc, t.cycles, t.peek 0xFF0F)) (0xC001, 4, 0xE0) = true := by decide

/-- S9: a halted tick with no request. -/
theorem test_halted_tick_s9 : leads { code [0x76] with halted := true, pc := 0xC001 }
    (fun t => (t.pc, t.halted, t.cycles, t.timer.divSub)) (0xC001, true, 4, 4) = true := by decide

/-- S11, second iteration: the wake with IME off backs PC up onto the `HALT`. -/
theorem test_halt_wake_backs_up_s11 : leads
    { ((code [0x76]).poke 0xFF0F 0x04).poke 0xFFFF 0x04 with halted := true, pc := 0xC001 }
    (fun t => (t.pc, t.halted, t.wakePenalty, t.cycles, t.peek 0xFF0F))
    (0xC000, false, true, 4, 0x04) = true := by decide

/-- S11, third iteration: the first instruction after the wake pays 4 cycles. -/
theorem test_wake_penalty_s11 : leads { code [0x76] with wakePenalty := true }
    (fun t => (t.halted, t.wakePenalty, t.cycles)) (true, false, 8) = true := by decide

/-- S13, first iteration: the byte at 0xFFFF is fetched and sets the mark. -/
theorem test_top_of_memory_s13 : leads { code [] with pc := 0xFFFF }
    (fun t => (t.pc, t.pcOverflow, t.cycles, t.run)) (0x0000, true, 4, .running) = true := by decide

/-- S13, second iteration: the next fetch is fatal. -/
theorem test_pc_out_of_range_s13 : leads { code [] with pc := 0x0000, pcOverflow := true }
    (fun t => (t.run, t.cycles)) (.stopped .pcOutOfRange, 0) = true := by decide

/-- S13: `JP HL` at 0xFFFF clears the mark. -/
theorem test_jump_clears_mark_s13 : leads
    { (code []).poke 0xFFFF 0xE9 with pc := 0xFFFF, h := 0xC0, l := 0x00 }
    (fun t => (t.pc, t.pcOverflow, t.cycles)) (0xC000, false, 4) = true := by decide

/-- D11: a relative jump that stays in range clears the mark too: `JR -2` whose second byte is at 0xFFFF
cannot (its PC is 0x0000), `JR +2` there can. -/
theorem test_relative_jump_mark_d11 :
    leads { ((code []).poke 0xFFFE 0x18).poke 0xFFFF 0x02 with pc := 0xFFFE }
      (fun t => (t.pc, t.pcOverflow, t.cycles)) (0x0002, false, 12) = true ∧
    leads { ((code []).poke 0xFFFE 0x18).poke 0xFFFF 0xFE with pc := 0xFFFE }
      (fun t => (t.pc, t.pcOverflow, t.cycles)) (0xFFFE, true, 12) = true := by decide

/-! ### Parameters other than the defaults (R8) -/

/-- A core that runs 0xDD as `INC B`, calls 0x00 unknown, charges `INC B` 7 cycles and behind the prefix
runs 0x00 as `SWAP A`, and whose IF is at 0xFF7F. -/
def remapped (bytes : List Byte) : State :=
  { code bytes with cfg := { Config.default with
      opcodeMap := [(0xDD, 0x04)], cbMap := [(0x00, 0x37)], illegal := [0x00]
      cycles := [0, 0, 0, 0, 7], ifAddr := 0xFF7F } }

theorem test_parameter_opcode_map : leads (remapped [0xDD])
    (fun t => (t.b, t.pc, t.cycles)) (0x01, 0xC001, 7) = true := by decide

theorem test_parameter_illegal : leads (remapped [0x00])
    (fun t => (t.run, t.cycles)) (.stopped (.unknownOpcode 0x00 0xC000), 0) = true := by decide

theorem test_parameter_cb_map : leads { remapped [0xCB, 0x00] with a := 0x12 }
    (fun t => (t.a, t.cycles)) (0x21, 8) = true := by decide

theorem test_parameter_if_addr : leads
    { ((remapped [0xDD]).poke 0xFF7F 0x01).poke 0xFFFF 0x01 with ime := true }
    (fun t => (t.pc, t.peek 0xFF7F, t.cycles)) (0x0040, 0x00, 20) = true := by decide

/-- P4: after the illegal opcode the core is stopped; a further step answers that fault (R351). -/
theorem test_stopped_core_faults :
    step { code [0xDD] with run := .stopped (.unknownOpcode 0xDD 0x0102) }
      = .fault (.unknownOpcode 0xDD 0x0102) := rfl

/-- From bare reset no ROM is loaded: the fetch at 0x0100 is past the end of the image (R99). -/
theorem test_reset_without_rom : leads State.reset (fun t => (t.run, t.pc))
    (.stopped (.fetchOutOfRange 0x0100), 0x0100) = true := by decide

/-- An instruction placed for the first step after reset runs (log entry 13). -/
theorem test_withFetchWord : leads (State.reset.withFetchWord 8 0x3C)
    (fun t => (t.a, t.pc, t.cycles)) (0x02, 0x0101, 4) = true := by decide

/-! ### The bus: vectors B -/

/-- B1, B2: the echo. -/
theorem test_echo_b1_b2 :
    (State.reset.busWrite 0xE123 0x5A).busRead 0xC123 = 0x5A ∧
      (State.reset.busWrite 0xC123 0xA5).busRead 0xE123 = 0xA5 := by decide

/-- B4: 0xDE00 has no mirror. -/
theorem test_no_mirror_b4 : (State.reset.busWrite 0xDE00 0x44).peek 0xFE00 = 0x00 := by decide

/-- B5: a write to DIV clears it and its sub-counter. -/
theorem test_div_write_b5 :
    let s := { (code []).poke 0xFF04 0x33 with timer := { divSub := 200, timaSub := 7 } }
    (s.busWrite 0xFF04 0x77).peek 0xFF04 = 0 ∧
      (s.busWrite 0xFF04 0x77).timer = { divSub := 0, timaSub := 7 } := by decide

set_option maxRecDepth 8000 in
/-- B6: 160 bytes are copied. -/
theorem test_dma_b6 :
    let s := (((code []).poke 0xC000 0x11).poke 0xC09F 0x22).poke 0xC0A0 0x99
    let t := s.busWrite 0xFF46 0xC0
    t.peek 0xFE00 = 0x11 ∧ t.peek 0xFE9F = 0x22 ∧ t.peek 0xFEA0 = 0x00 ∧ t.peek 0xFF46 = 0xC0 := by
  decide

/-- B7, B8, B9: the joypad byte for RIGHT and START held. -/
theorem test_joypad_b7_b9 :
    joypadValue 0x20 0x81 = 0xEE ∧ joypadValue 0x10 0x81 = 0xD7 ∧ joypadValue 0x30 0x81 = 0xFF ∧
      joypadValue 0x00 0x81 = 0xC6 := by decide

/-- A cartridge of eight banks, bank k beginning with 0xB0 + k. -/
def banks (kind : MbcKind) : State :=
  { State.reset with
    mbc := Mbc.fresh kind
    rom := { size := 0x20000, data := [(0x0000, 0xB0), (0x4000, 0xB1), (0x8000, 0xB2), (0xC000, 0xB3),
      (0x10000, 0xB4), (0x14000, 0xB5), (0x18000, 0xB6), (0x1C000, 0xB7)] } }

/-- B10, B12, B13: MBC3 banks. -/
theorem test_mbc3_banks_b10 :
    (banks .mbc3).busRead 0x4000 = 0xB1 ∧ ((banks .mbc3).busWrite 0x2000 0x00).busRead 0x4000 = 0xB1 ∧
      ((banks .mbc3).busWrite 0x3FFF 0x05).busRead 0x4000 = 0xB5 ∧
      ((banks .mbc3).busWrite 0x2000 0x83).busRead 0x4000 = 0xB3 := by decide

/-- B14, B15: MBC1 coerces bank 0 after its mask, MBC5 too. -/
theorem test_mbc1_mbc5_banks_b14_b15 :
    ((banks .mbc1).busWrite 0x2000 0x20).busRead 0x4000 = 0xB1 ∧
      ((banks .mbc1).busWrite 0x2000 0xE3).busRead 0x4000 = 0xB3 ∧
      ((banks .mbc5).busWrite 0x2000 0x00).busRead 0x4000 = 0xB1 ∧
      ((banks .mbc5).busWrite 0x3000 0x01).busRead 0x4000 = 0xB1 := by decide

/-- B16: MBC1's two registers make bank 33; in mode 1 it is bank 1. -/
theorem test_mbc1_upper_bits_b16 :
    (((banks .mbc1).busWrite 0x2000 0x01).busWrite 0x4000 0x01).mbc.romBank = 33 ∧
      ((((banks .mbc1).busWrite 0x2000 0x01).busWrite 0x4000 0x01).busWrite 0x6000 0x01).busRead 0x4000
        = 0xB1 := by decide

/-- A cartridge with external RAM. -/
def withRam (kind : MbcKind) (size : Nat) (enabled : Bool) : State :=
  { banks kind with
    mbc := { Mbc.fresh kind with ramEnable := enabled }
    extRam := { size := size, data := [] } }

/-- B18, B20: disabled RAM reads 0xFF and ignores writes; disabling asks the host to persist it. -/
theorem test_ext_ram_b18_b20 :
    (withRam .mbc3 0x8000 false).busRead 0xA000 = 0xFF ∧
      ((withRam .mbc3 0x8000 true).busWrite 0xA000 0x12).busRead 0xA000 = 0x12 ∧
      ((withRam .mbc3 0x8000 true).busWrite 0x0000 0x00).signals = [.persistRam] := by decide

/-- B21: an offset past the RAM's size. -/
theorem test_ext_ram_size_b21 :
    ((withRam .mbc1 0x800 true).busWrite 0xA7FF 0x66).busRead 0xA7FF = 0x66 ∧
      ((withRam .mbc1 0x800 true).busWrite 0xA800 0x77).busRead 0xA800 = 0xFF := by decide

/-- B22: the clock latch is a signal and nothing else. -/
theorem test_rtc_latch_b22 :
    (banks .mbc3).busWrite 0x6000 0x01
      = { banks .mbc3 with signals := [.unsupportedRtcLatch] } := rfl

/-! ### Devices: vectors D, T and A -/

/-- The reset state with the LCD on. -/
def lcd : State := State.reset.poke 0xFF40 0x80

/-- D1 and D2: mode 3 begins 80 cycles into the line. -/
theorem test_ppu_transfer_d1_d2 :
    (lcd.ppuUpdate 79).ppu.mode = .oamScan ∧ (lcd.ppuUpdate 79).ppu.modeClock = 79 ∧
      (lcd.ppuUpdate 80).ppu.mode = .transfer ∧ (lcd.ppuUpdate 80).peek 0xFF41 = 0x03 := by decide

/-- D12: with the LCD off nothing moves. -/
theorem test_ppu_off_d12 : State.reset.ppuUpdate 70224 = { State.reset with vblank := false } := by
  unfold State.ppuUpdate
  exact if_pos (by decide)

/-- D11: entering mode 0 asks for interrupt 1 where STAT[3] is set. -/
theorem test_stat_hblank_d11 :
    ((lcd.poke 0xFF41 0x08).setMode .hblank).peek 0xFF0F = 0x02 := by decide

/-- D10: the coincidence bit and its interrupt. -/
theorem test_lyc_d10 :
    let s := ((lcd.poke 0xFF45 0x02).poke 0xFF41 0x40).setLine 2
    s.peek 0xFF41 = 0x44 ∧ s.peek 0xFF0F = 0x02 := by decide

set_option maxRecDepth 8000 in
/-- D7: entering line 144. -/
theorem test_vblank_d7 :
    let s := { lcd with ppu := { Ppu.reset with mode := .hblank, line := 143, modeClock := 203 } }
    let t := s.ppuUpdate 1
    t.vblank = true ∧ t.ppu.line = 144 ∧ t.ppu.mode = .vblank ∧ t.peek 0xFF0F = 0x01 ∧
      t.peek 0xFF41 = 0x01 := by decide

/-- D9: the frame's end. -/
theorem test_frame_end_d9 :
    let s := { lcd with ppu := { Ppu.reset with mode := .vblank, line := 153, modeClock := 455 } }
    let t := s.ppuUpdate 1
    t.ppu.line = 0 ∧ t.ppu.mode = .oamScan ∧ t.ppu.modeClock = 0 ∧ t.peek 0xFF41 = 0x06 := by decide

/-- The timer registers set on the reset state. -/
def timed (tac tima tma : Byte) : State :=
  ((State.reset.poke 0xFF07 tac).poke 0xFF05 tima).poke 0xFF06 tma

/-- T1 and T2: overflow, reload and request. -/
theorem test_timer_t1_t2 :
    ((timed 0x04 0xFF 0xAB).timerUpdate 1023).peek 0xFF05 = 0xFF ∧
      ((timed 0x04 0xFF 0xAB).timerUpdate 1024).peek 0xFF05 = 0xAB ∧
      ((timed 0x04 0xFF 0xAB).timerUpdate 1024).peek 0xFF0F = 0x04 ∧
      ((timed 0x05 0xFF 0xAB).timerUpdate 16).peek 0xFF05 = 0xAB := by decide

/-- T6: DIV wraps after 256 counts. -/
theorem test_div_t6 :
    (State.reset.timerUpdate 255).peek 0xFF04 = 0x00 ∧
      (State.reset.timerUpdate 256).peek 0xFF04 = 0x01 ∧
      (State.reset.timerUpdate 65536).peek 0xFF04 = 0x00 := by decide

/-- The APU switched on (A2), then channel 1 triggered as in A3. -/
def apuOn : State := State.reset.busWrite 0xFF26 0x80
def triggered : State :=
  ((((apuOn.busWrite 0xFF10 0x10).busWrite 0xFF11 0x3F).busWrite 0xFF12 0xF1).busWrite 0xFF13
    0x00).busWrite 0xFF14 0xC4

/-- A1: with the power off a store to a register is discarded. -/
theorem test_apu_off_a1 :
    State.reset.busRead 0xFF26 = 0x70 ∧ (State.reset.busWrite 0xFF12 0xF0).busRead 0xFF12 = 0x00 := by
  decide

/-- A3: the trigger and the read-back. -/
theorem test_apu_trigger_a3 :
    triggered.busRead 0xFF26 = 0xF1 ∧ triggered.busRead 0xFF10 = 0x90 ∧
      triggered.busRead 0xFF13 = 0xFF ∧ triggered.apu.ch1.freq = 0x400 ∧
      triggered.apu.ch1.length = 1 ∧ triggered.apu.ch1.vol = 15 ∧ triggered.apu.sweepTimer = 1 := by
  decide

/-- A4: step 0's length clock silences the channel. -/
theorem test_apu_length_a4 :
    (triggered.apuUpdate 8191).busRead 0xFF26 = 0xF1 ∧
      (triggered.apuUpdate 8192).busRead 0xFF26 = 0xF0 ∧
      (triggered.apuUpdate 8192).apu.fsStep = 1 := by decide

/-- A6, its last sweep: 0x600 + 0x300 is past 2047. -/
theorem test_apu_sweep_a6 :
    let u := { triggered.apu with shadow := 0x600, ch1 := { triggered.apu.ch1 with freq := 0x600 } }
    (u.clockSweep 0x11).ch1.enabled = false ∧ (u.clockSweep 0x11).ch1.freq = 0x600 := by decide

/-- A7: power off zeroes the registers and keeps the wave RAM. -/
theorem test_apu_power_off_a7 :
    let s := (triggered.busWrite 0xFF30 0xAB).busWrite 0xFF26 0x00
    s.busRead 0xFF26 = 0x70 ∧ s.busRead 0xFF12 = 0x00 ∧ s.busRead 0xFF11 = 0x3F ∧
      s.busRead 0xFF30 = 0xAB := by decide

/-- R490: with frequency 0x7FF the pulse waveform steps every 4 cycles. -/
theorem test_pulse_advance :
    let ch := { Pulse.reset with freq := 0x7FF, freqTimer := 4 }
    (ch.advance 3).dutyPos = 0 ∧ (ch.advance 3).freqTimer = 1 ∧
      (ch.advance 4).dutyPos = 1 ∧ (ch.advance 9).dutyPos = 2 ∧ (ch.advance 9).freqTimer = 3 := by
  decide

/-- R493: the shift register from all ones, and the 7-bit tap. -/
theorem test_lfsr_clock :
    lfsrClock 0x00 0x7FFF = 0x3FFF ∧ lfsrClock 0x00 0x0001 = 0x4000 ∧
      lfsrClock 0x08 0x0001 = 0x4040 ∧ lfsrClock 0x08 0x00FF = 0x003F := by decide

/-- The header checksum of 25 zero bytes is 0xFF (scenario 1). -/
theorem test_header_checksum : headerChecksum [] = 0xFF := by decide

/-! ### Witnesses: a state and operands that meet the hypotheses of each statement -/

theorem witness_DecodeEncode :
    (Instr.ldBcD16 0x1234).WellFormed ∧ (Instr.illegal 0xFD).WellFormed ∧ Instr.set7A.WellFormed := by
  decide

/-- The bounds of the fields and the one exception of block 1, on either side of it. -/
theorem witness_OpcodeMap :
    (7 : Nat) < 8 ∧ (3 : Nat) < 4 ∧ decode 0x75 0 0 = .ldIndHlL ∧ decode 0x76 0 0 = .halt ∧
      decode 0x7E 0 0 = .ldAIndHl ∧ decode 0xFF 0 0 = rstOf 7 := by decide

theorem witness_PlainStorage :
    PlainAddress 0x8000 ∧ PlainAddress 0x9FFF ∧ PlainAddress 0xDE00 ∧ PlainAddress 0xDFFF ∧
      PlainAddress 0xFE00 ∧ PlainAddress 0xFEFF ∧ PlainAddress 0xFF01 ∧ PlainAddress 0xFF0F ∧
      PlainAddress 0xFF40 ∧ PlainAddress 0xFF47 ∧ PlainAddress 0xFFFF ∧ ¬ PlainAddress 0xFF04 := by
  and_intros <;> (unfold PlainAddress; decide)

theorem witness_EchoSynchronised :
    (0xC000 ≤ (0xC000 : Word).toNat ∧ (0xC000 : Word).toNat ≤ 0xDDFF) ∧
      (0xC000 ≤ (0xDDFF : Word).toNat ∧ (0xDDFF : Word).toNat ≤ 0xDDFF) ∧ EchoOk State.reset :=
  ⟨by decide, by decide, fun _ _ _ => rfl⟩

theorem witness_BusFrames :
    ¬ storedBytes 0xC000 0xC001 ∧ ¬ storedBytes 0xFF46 0xFEA0 ∧ ¬ storedBytes 0x7FFF 0x7FFF ∧
      ¬ storedBytes 0xFF26 0xFF27 ∧ ¬ storedBytes 0xBFFF 0xBFFF ∧ ¬ storedBytes 0xFFFF 0xFFFE := by
  and_intros <;> simp [storedBytes]

/-- The addresses on either side of each device's window. -/
theorem witness_BusFrames_devices :
    0x8000 ≤ (0x8000 : Word).toNat ∧
    ((0x9FFF : Word).toNat < 0xA000 ∧ 0xBFFF < (0xC000 : Word).toNat) ∧
    ((0xFF03 : Word).toNat ≠ 0xFF04 ∧ (0xFF05 : Word).toNat ≠ 0xFF04) ∧
    ((0xFF0F : Word).toNat < 0xFF10 ∧ 0xFF3F < (0xFF40 : Word).toNat) ∧
    ((0xFF45 : Word).toNat ≠ 0xFF46 ∧ (0xFF47 : Word).toNat ≠ 0xFF46) := by decide

/-- A write that maps the bank already mapped, at both ends of the ROM windows. -/
theorem witness_RomIsNotWritten :
    (0x7FFF : Word).toNat < 0x8000 ∧ (0x0000 : Word).toNat < 0x8000 ∧
      ((banks .mbc3).busWrite 0x2000 0x01).mbc.romBank = (banks .mbc3).mbc.romBank := by decide

/-- Each window at both its ends, under each controller that has it. -/
theorem witness_ControllerWindows :
    ((0x0000 : Word).toNat ≤ 0x1FFF ∧ (0x1FFF : Word).toNat ≤ 0x1FFF) ∧
    (0x2000 ≤ (0x2000 : Word).toNat ∧ (0x7FFF : Word).toNat ≤ 0x7FFF ∧
      (banks .noMbc).mbc.kind = .noMbc) ∧
    (0x2000 ≤ (0x2000 : Word).toNat ∧ (0x3FFF : Word).toNat ≤ 0x3FFF ∧
      (banks .mbc1).mbc.kind = .mbc1 ∧ (banks .mbc3).mbc.kind = .mbc3 ∧
      (banks .mbc5).mbc.kind = .mbc5) ∧
    (0x4000 ≤ (0x4000 : Word).toNat ∧ (0x5FFF : Word).toNat ≤ 0x5FFF ∧
      (banks .mbc1).mbc.kind ≠ .noMbc) ∧
    (0x6000 ≤ (0x6000 : Word).toNat ∧ (0x7FFF : Word).toNat ≤ 0x7FFF) := by decide

/-- The window's ends; RAM present, disabled, and too small. -/
theorem witness_ExternalRam :
    (0xA000 ≤ (0xA000 : Word).toNat ∧ (0xBFFF : Word).toNat ≤ 0xBFFF) ∧
    ((withRam .mbc3 0x8000 true).mbc.ramEnable = true ∧
      (withRam .mbc3 0x8000 true).mbc.ramBank * 0x2000 + (0xBFFF - 0xA000) <
        (withRam .mbc3 0x8000 true).extRam.size) ∧
    (withRam .mbc3 0x8000 false).mbc.ramEnable = false ∧
    (withRam .mbc1 0x800 true).extRam.size ≤
      (withRam .mbc1 0x800 true).mbc.ramBank * 0x2000 + (0xA800 - 0xA000) := by decide

/-- The last byte of an image, the first past it in a bank that the image does not have, and a core
that fetches there. -/
theorem witness_RomReads :
    (0x3FFF : Word).toNat < 0x8000 ∧ 0x3FFF < (banks .mbc3).rom.size ∧
    (0x7FFF : Word).toNat < 0x8000 ∧
    State.reset.rom.size ≤ State.reset.mbc.romBank * 0x4000 + (0x7FFF - 0x4000) ∧
    { State.reset with pc := 0x7FFF }.pc = 0x7FFF ∧
    { State.reset with pc := 0x7FFF }.pcOverflow = false := by decide

set_option maxRecDepth 8000 in
/-- A source in work RAM, one in ROM with every byte of it in the image, and OAM itself. -/
theorem witness_DmaCopies :
    (0x9F < 0xA0 ∧ (0xC0 : Byte) ≠ 0xFE ∧ ¬ (0xC0 : Byte).toNat < 0x80) ∧
    ((0x00 : Byte) ≠ 0xFE ∧ ∀ j, j < 0xA0 →
      (codeAt 0x0100 []).romInRange (mkWord 0x00 0 + BitVec.ofNat 16 j) = true) ∧
    (0xFE00 - 1 < 0xFE00 ∧ 0xFE9F < 0xFEA0) := by decide

theorem witness_ApuReadBack : 0x00 < 0x30 ∧ 0x2F < 0x30 ∧ 0x2F ≠ 0x16 ∧ 0x16 < 0x30 := by decide

theorem witness_LoadRegister : Operand8.b ≠ .indHl ∧ Operand8.a ≠ .indHl := by decide

theorem witness_ByteStores : Operand8.l ≠ .indHl := by decide

/-- The stack of the reset state, and one that begins at the end of work RAM's mirrored part. -/
theorem witness_StackRoundTrip :
    (RamAddress (State.reset.sp - 1) ∧ RamAddress (State.reset.sp - 2)) ∧
      (RamAddress (0xDE01 - 1) ∧ RamAddress (0xDE01 - 2)) := by
  and_intros <;> (unfold RamAddress PlainAddress; decide)

theorem witness_LogicForms : AluOp.xor = .and ∨ AluOp.xor = .xor ∨ AluOp.xor = .or := by decide

/-- 99 + 1, with two digits in A. -/
theorem witness_DecimalArithmetic : 99 < 100 ∧ 1 < 100 ∧ { State.reset with a := 0x99 }.a = bcd 99 := by
  decide

theorem witness_BitOperations : 0 < 8 ∧ 7 < 8 := by decide

theorem witness_CallsAndReturns : 0 < 8 ∧ 7 < 8 := by decide

/-- A store of A in work RAM, the byte after its mirror. -/
theorem witness_MemoryFrame : ∃ t, exec (.ldIndA16A 0xC000) State.reset = .next t ∧
    ∀ a ∈ storeAddrs (.ldIndA16A 0xC000) State.reset, ¬ storedBytes a 0xE001 :=
  ⟨_, rfl, by
    show ∀ a ∈ [(0xC000 : Word)], ¬ storedBytes a 0xE001
    simp [storedBytes]⟩

/-- A push whose two stores are in high RAM reaches no device, and one at 0xFF04 reaches the divider
alone. -/
theorem witness_MemoryFrame_devices :
    (∃ t, exec .pushBc State.reset = .next t) ∧
    (∀ a ∈ storeAddrs .pushBc State.reset, 0x8000 ≤ a.toNat) ∧
    (∀ a ∈ storeAddrs .pushBc State.reset, a.toNat < 0xA000 ∨ 0xBFFF < a.toNat) ∧
    (∀ a ∈ storeAddrs .pushBc State.reset, a.toNat ≠ 0xFF04) ∧
    (∀ a ∈ storeAddrs .pushBc State.reset, a.toNat < 0xFF10 ∨ 0xFF3F < a.toNat) ∧
    (∀ a ∈ storeAddrs (.ldhIndA8A 0x04) State.reset, a.toNat < 0xFF10 ∨ 0xFF3F < a.toNat) :=
  have push : storeAddrs .pushBc State.reset = [0xFFFD, 0xFFFC] := rfl
  have store : storeAddrs (.ldhIndA8A 0x04) State.reset = [0xFF04] := rfl
  ⟨⟨_, rfl⟩, by rw [push, store]; simp⟩

/-- An instruction that stores nothing. -/
theorem witness_MemoryFrame_nothing_stored : ∃ t, exec .incB State.reset = .next t ∧
    storeAddrs .incB State.reset = [] := ⟨_, rfl, rfl⟩

theorem witness_ControlStateWriters : ∃ t, exec .incB State.reset = .next t := ⟨_, rfl⟩

/-- A three-byte instruction in work RAM, and one whose last byte is at 0xFFFF. -/
theorem witness_StepRunsDecoded :
    let s := code [0xEA, 0x00, 0xC1]
    let u := { code [] with pc := 0xFFFF }
    (s.Live ∧ s.takesInterrupt = false ∧ s.halted = false ∧ s.pcOverflow = false ∧
      s.pc.toNat + s.cfg.instrLength (s.busRead s.pc) ≤ 0x10000 ∧ 0x8000 ≤ s.pc.toNat) ∧
    (u.Live ∧ u.takesInterrupt = false ∧ u.halted = false ∧ u.pcOverflow = false ∧
      u.pc.toNat + u.cfg.instrLength (u.busRead u.pc) = 0x10000) := by decide

/-- A core under the policy `wrap`. -/
def wrapping : State :=
  { code [] with cfg := { Config.default with pcOverflowPolicy := .wrap } }

/-- A two-byte instruction in the ROM, all its bytes in the image; and under the policy `wrap` one that
begins at 0xFFFF and ends at 0x0000. -/
theorem witness_StepRunsDecoded_in_rom :
    let s := codeAt 0x0100 [0x3E, 0x42]
    let u := { wrapping.poke 0xFFFF 0x3E with pc := 0xFFFF }
    (s.Live ∧ s.takesInterrupt = false ∧ s.halted = false ∧ s.pcOverflow = false ∧
      s.cfg.instrLength (s.busRead s.pc) = 2 ∧
      ∀ k, k < 2 → s.romInRange (s.pc + BitVec.ofNat 16 k) = true) ∧
    (u.Live ∧ u.takesInterrupt = false ∧ u.halted = false ∧ u.cfg.pcOverflowPolicy = .wrap ∧
      u.cfg.instrLength (u.busRead u.pc) = 2) := by decide

/-- The ROM past whose end an instruction's second byte lies. -/
def shortRom : State :=
  { State.reset with
    rom := { size := 0x101, data := [(0x100, 0x3E)] }, pc := 0x0100 }

/-- The lowest and the highest request. -/
theorem witness_InterruptDispatch :
    let s := { ((code []).poke 0xFF0F 0x11).poke 0xFFFF 0x10 with ime := true }
    let u := { ((code []).poke 0xFF0F 0x11).poke 0xFFFF 0x01 with ime := true }
    (s.Live ∧ s.ime = true ∧ s.pendingIE = false ∧ 4 < 5 ∧
      (s.peek 0xFF0F &&& s.peek 0xFFFF).getLsbD 4 = true ∧
      ∀ j, j < 4 → (s.peek 0xFF0F &&& s.peek 0xFFFF).getLsbD j = false) ∧
    (u.Live ∧ u.ime = true ∧ (u.peek 0xFF0F &&& u.peek 0xFFFF).getLsbD 0 = true) := by decide

/-- Halted with no request, and with one and IME off. -/
theorem witness_HaltedTick :
    let s := { code [] with halted := true }
    let u := { ((code []).poke 0xFF0F 0x04).poke 0xFFFF 0x04 with halted := true }
    (s.Live ∧ s.halted = true ∧ s.takesInterrupt = false) ∧
      (u.Live ∧ u.halted = true ∧ u.takesInterrupt = false ∧ u.pending ≠ 0) := by decide

/-- `EI` with nothing pending. -/
theorem witness_EnableDelay_ei : ∃ (u t : State), (code [0xFB]).Live ∧
    (code [0xFB]).takesInterrupt = false ∧ (code [0xFB]).halted = false ∧
    (code [0xFB]).fetchInstr = .ok .ei u ∧ step (code [0xFB]) = .next t ∧ t.faulted = false ∧
    (code [0xFB]).pendingIE = false :=
  ⟨_, _, rfl, rfl, rfl, rfl, rfl, rfl, rfl⟩

/-- `NOP` behind an `EI`. -/
theorem witness_EnableDelay_next : ∃ (u t : State),
    { code [0x00] with pendingIE := true }.takesInterrupt = false ∧
    { code [0x00] with pendingIE := true }.fetchInstr = .ok .nop u ∧
    step { code [0x00] with pendingIE := true } = .next t ∧ t.faulted = false ∧ Instr.nop ≠ .di :=
  ⟨_, _, rfl, rfl, rfl, rfl, by decide⟩

/-- `DI` behind an `EI`. -/
theorem witness_EnableDelay_di : ∃ (u t : State),
    { code [0xF3] with pendingIE := true }.takesInterrupt = false ∧
    { code [0xF3] with pendingIE := true }.fetchInstr = .ok .di u ∧
    step { code [0xF3] with pendingIE := true } = .next t ∧ t.faulted = false :=
  ⟨_, _, rfl, rfl, rfl, rfl⟩

/-- Under the policy `fault`: the mark set before the first byte, and set by the byte at 0xFFFF before the
second and before the third; the byte at 0xFFFF itself. -/
theorem witness_FetchFaults :
    let s := { code [] with pcOverflow := true }
    let u := { (code []).poke 0xFFFF 0x3E with pc := 0xFFFF }
    let v := { (code []).poke 0xFFFE 0xC3 with pc := 0xFFFE }
    (s.Live ∧ s.takesInterrupt = false ∧ s.halted = false ∧ s.pcOverflow = true ∧
      0 < s.cfg.instrLength (s.busRead s.pc) ∧ s.cfg.pcOverflowPolicy = .fault) ∧
    (u.Live ∧ u.takesInterrupt = false ∧ u.halted = false ∧ u.pcOverflow = false ∧
      1 < u.cfg.instrLength (u.busRead u.pc) ∧ u.pc.toNat + 1 = 0x10000) ∧
    (v.Live ∧ v.takesInterrupt = false ∧ v.halted = false ∧ v.pcOverflow = false ∧
      2 < v.cfg.instrLength (v.busRead v.pc) ∧ v.pc.toNat + 2 = 0x10000) := by decide

/-- Past the image: the first byte, and the second of a two-byte instruction. -/
theorem witness_FetchFaults_image :
    let u := { State.reset with pc := 0x7FFF }
    (u.Live ∧ u.takesInterrupt = false ∧ u.halted = false ∧ u.pcOverflow = false ∧
      u.pc.toNat + 0 ≤ 0xFFFF ∧ u.pc.toNat < 0x8000 ∧ u.romInRange u.pc = false) ∧
    (shortRom.Live ∧ shortRom.takesInterrupt = false ∧ shortRom.halted = false ∧
      shortRom.pcOverflow = false ∧ 1 < shortRom.cfg.instrLength (shortRom.busRead shortRom.pc) ∧
      shortRom.romInRange shortRom.pc = true ∧ shortRom.pc.toNat + 1 < 0x8000 ∧
      shortRom.romInRange (shortRom.pc + 1) = false) := by decide

theorem witness_StoppedCore :
    { State.reset with run := .stopped (.unknownOpcode 0xDD 0xC000) }.run
        = .stopped (.unknownOpcode 0xDD 0xC000) ∧
      { State.reset with run := .stopped (.fetchOutOfRange 0x0100) }.run
        = .stopped (.fetchOutOfRange 0x0100) ∧
      { State.reset with run := .stopped .pcOutOfRange }.run = .stopped .pcOutOfRange ∧
      { State.reset with run := .stopped .stopInstruction }.run = .stopped .stopInstruction := by
  decide

theorem witness_LiveCoreSteps : State.reset.Live ∧ (code [0x76]).Live := by decide

theorem witness_FlagsLowNibble : ∃ t, (code [0xF1]).takesInterrupt = false ∧
    (code [0xF1]).halted = false ∧ step (code [0xF1]) = .next t ∧ t.faulted = false :=
  ⟨_, rfl, rfl, rfl, rfl⟩

/-- A PPU at a point in its frame. -/
theorem ppu_reset_ok : PpuOk Ppu.reset where
  line := by decide
  mode := by decide
  clock := by decide
  rows := List.length_replicate
  columns := fun _ h => by rw [List.eq_of_mem_replicate h, List.length_replicate]
  indices := List.length_replicate
  sprites := by decide

/-- A state with the invariant (a halted core with work RAM and its echo written) that steps. -/
theorem witness_StepKeepsInv :
    let s := { (State.reset.poke 0xC000 0x01).poke 0xE000 0x01 with halted := true, sp := 0xD000 }
    Inv s ∧ ∃ t, step s = .next t := by
  intro s
  have peek : ∀ n, s.peek n = if n = 0xC000 ∨ n = 0xE000 then 1 else 0 := by
    intro n
    show Memory.read [(0xC000, 1), (0xE000, 1)] n = _
    simp only [Memory.read, eq_comm (b := n)]
    split <;> simp_all
  exact ⟨{
      cfg := by decide
      stores := by constructor <;> decide
      echo := fun n lo hi => by rw [peek, peek]; congr 1; simp; omega
      cpu := by constructor <;> decide
      mbc := by constructor <;> decide
      timer := by constructor <;> decide
      ppu := ppu_reset_ok
      apu :=
        { power := by decide
          registers := fun _ n lo hi => by rw [peek, if_neg (by omega)]
          silent := by decide
          clock := by decide } }, _, rfl⟩

/-- The ROM with a `HALT` at 0x0200 and a request pending, on the `HALT` and behind it. -/
def halting : State := ((codeAt 0x0200 [0x76]).poke 0xFF0F 0x04).poke 0xFFFF 0x04

theorem witness_HaltLoopForever :
    HaltLoop 0x0200 halting ∧ HaltLoop 0x0200 { halting with halted := true, pc := 0x0201 } := by
  constructor <;> constructor <;> decide

/-- TAC disabled; enabled with TIMA reaching 0xFF, passing it by one, and passing it twice. -/
theorem witness_TimerUpdate :
    (timed 0x01 0x10 0x00).cfg.Ok ∧ ((timed 0x01 0x10 0x00).peek 0xFF07).getLsbD 2 = false ∧
    ((timed 0x05 0xFE 0xAB).peek 0xFF07).getLsbD 2 = true ∧
    ((timed 0x05 0xFE 0xAB).peek 0xFF05).toNat + (0 + 31) / 16 < 256 ∧
    256 ≤ ((timed 0x05 0xFE 0xAB).peek 0xFF05).toNat + (0 + 32) / 16 ∧
    256 ≤ ((timed 0x05 0xFF 0xFF).peek 0xFF05).toNat + (0 + 32) / 16 := by decide

/-- The LCD on, with the end of mode 2 not reached and reached, and off; each transition. -/
theorem witness_PpuTiming :
    ((lcd.peek 0xFF40).getLsbD 7 = true ∧ PpuOk lcd.ppu ∧ lcd.cfg.Ok ∧ lcd.ppu.mode = .oamScan ∧
      lcd.ppu.modeClock + 79 < 80 ∧ 80 ≤ lcd.ppu.modeClock + 80) ∧
    (State.reset.peek 0xFF40).getLsbD 7 = false ∧
    ({ Ppu.reset with mode := .hblank, line := 143 }.line = 143 ∧
      { Ppu.reset with mode := .vblank, line := 153 }.line = 153 ∧
      Ppu.reset.line ≠ 143 ∧ Ppu.reset.line ≠ 153) :=
  ⟨⟨by decide, ppu_reset_ok, by decide⟩, by decide⟩

theorem witness_StatAndLine : lcd.cfg.Ok := by decide

/-- OAM entry 0 on line 0 at column 0, over a tile whose first row is colour 1, with sprites on. -/
def sprited : State :=
  { ((((State.reset.poke 0xFF40 0x82).poke 0xFE00 16).poke 0xFE01 8).poke 0x8000 0xFF) with
    ppu := { Ppu.reset with mode := .transfer, sprites := [0] } }

/-- A column with no opaque sprite, and one where the first sprite of the cache is opaque; each mode. -/
theorem witness_Composition :
    (0 < 160 ∧ 159 < 160 ∧ 143 < 144 ∧ PpuOk Ppu.reset) ∧
    (PpuOk sprited.ppu ∧ sprited.ppu.line < 144 ∧ (sprited.peek 0xFF40).getLsbD 1 = true ∧
      sprited.ppu.sprites = [] ++ 0 :: [] ∧ spritePixel sprited.mem 0 0 0 ≠ 0 ∧
      spritePixel sprited.mem 0 0 8 = 0 ∧ sprited.ppu.mode = .transfer) ∧
    (Ppu.reset.mode = .oamScan ∧ State.reset.cfg.Ok) :=
  ⟨⟨by decide, by decide, by decide, ppu_reset_ok⟩,
    ⟨{ ppu_reset_ok with
        mode := by decide
        clock := by decide
        sprites := by decide }, by decide, by decide, rfl, by decide, by decide, rfl⟩, by decide⟩

/-- Switching off, switching on, asking for what it is, and a store while off at both ends of the
registers and of what follows them. -/
theorem witness_ApuPower :
    (apuOn.apu.power = true ∧ (0x7F : Byte).getLsbD 7 = false) ∧
    (State.reset.apu.power = false ∧ (0x80 : Byte).getLsbD 7 = true) ∧
    (apuOn.apu.power = (0xFF : Byte).getLsbD 7 ∧ State.reset.apu.power = (0x7F : Byte).getLsbD 7) ∧
    (0xFF10 ≤ (0xFF10 : Word).toNat ∧ (0xFF25 : Word).toNat ≤ 0xFF25) ∧
    (0xFF27 ≤ (0xFF27 : Word).toNat ∧ (0xFF3F : Word).toNat ≤ 0xFF3F) := by decide

/-- With a trigger and without; the ends of the registers, NR52 left out. -/
theorem witness_ApuStores :
    apuOn.apu.power = true ∧ (0x80 : Byte).getLsbD 7 = true ∧ (0x7F : Byte).getLsbD 7 = false ∧
    (0xFF10 ≤ (0xFF10 : Word).toNat ∧ (0xFF3F : Word).toNat ≤ 0xFF3F ∧
      (0xFF25 : Word).toNat ≠ 0xFF26 ∧ 0xFF27 ≤ (0xFF27 : Word).toNat) := by decide

theorem witness_FrameSequencer : State.reset.apu.power = false ∧ apuOn.apu.power = true := by decide

/-- A byte of the opcode map that is illegal in the default core, and one that another core has moved. -/
theorem witness_EncodeDecode :
    (0xDD : Byte) ∈ Config.default.illegal ∧ (0xDD : Byte) ∉ (remapped []).cfg.illegal ∧
      ((remapped []).cfg.opcodeMap.lookup 0xDD).getD 0xDD ∉ illegalOpcodes := by decide

/-- An image of a type and a RAM-size code with the header checksum that fits them. -/
def imageOf (type ram : Byte) : List Byte :=
  List.replicate 0x147 0 ++ [type, 0, ram, 0, 0, 0, -(type + ram) - 1]

/-- The condition of R69 on an image's header checksum. -/
def headerGood (bytes : List Byte) : Bool :=
  let header := fun n => (bytes.getD n 0).toNat
  (((List.range 25).map fun i => header (0x134 + i)).sum + header 0x14D + 1) % 256 = 0

set_option maxRecDepth 8000 in
/-- An image with a wrong checksum; a type and a RAM-size code that are not the spec's; and one that is
loaded, with nothing in the store, with as many bytes as asked for, and with another number of them. -/
theorem witness_LoadRom :
    headerGood [] = false ∧ headerGood (imageOf 0x04 0x00) = true ∧
    headerGood (imageOf 0x13 0x04) = true ∧ headerGood (imageOf 0x13 0x01) = true ∧
    (∃ t, State.reset.loadRom (imageOf 0x13 0x01) none = .loaded t) ∧
    (List.replicate 2048 (0x5A : Byte)).length = 2048 ∧ ([] : List Byte).length ≠ 2048 :=
  ⟨by decide, by decide, by decide, by decide, ⟨_, rfl⟩, List.length_replicate, by decide⟩

/-- The ends of the type byte's ranges (R90). -/
theorem test_controller_by_type :
    [0x00, 0x01, 0x03, 0x04, 0x0E, 0x0F, 0x13, 0x14, 0x18, 0x19, 0x1E, 0x1F].map mbcKindOf =
      [some .noMbc, some .mbc1, some .mbc1, none, none, some .mbc3, some .mbc3, none, none,
        some .mbc5, some .mbc5, none] := by decide

/-- A running core with the default cycle tables, and the first and last request. -/
theorem witness_HostActions :
    (code [0x00]).Live ∧ (code [0x00]).cfg.DefaultCycles ∧ 0 < 5 ∧ 4 < 5 :=
  ⟨rfl, ⟨rfl, rfl, rfl⟩, by decide⟩

end Sys2Proof.Tests
end

section
/-!
PROOFS. The encoding (R120 to R140): what the decoder reads from three bytes, block by block of the
opcode map, and how a core's own map is read.
-/

namespace Sys2Proof.Proofs.Encoding

/-! ### A byte and its three fields -/

/-- The byte whose fields are x, y and z (R122, R123). -/
def opByte (x y z : Nat) : Byte := BitVec.ofNat 8 (64 * x + 8 * y + z)

theorem fields_opByte {x y z : Nat} (hx : x < 4) (hy : y < 8) (hz : z < 8) :
    ((opByte x y z).extractLsb' 6 2).toNat = x ∧ ((opByte x y z).extractLsb' 3 3).toNat = y ∧
      ((opByte x y z).extractLsb' 0 3).toNat = z := by
  simp only [opByte, BitVec.extractLsb'_toNat, BitVec.toNat_ofNat, Nat.shiftRight_eq_div_pow]
  omega

theorem exists_opByte (b : Byte) : ∃ x < 4, ∃ y < 8, ∃ z < 8, b = opByte x y z := by
  have hb := b.isLt
  refine ⟨b.toNat / 64, by omega, b.toNat / 8 % 8, by omega, b.toNat % 8, by omega, ?_⟩
  apply BitVec.eq_of_toNat_eq
  rw [opByte, BitVec.toNat_ofNat]
  omega

/-! ### Reading an instruction from three bytes -/

/-- `i` is what the three bytes say: it is well-formed, and its own bytes are as many of them as the
first one asks for. -/
def Reads (i : Instr) (b0 b1 b2 : Byte) : Prop :=
  i.WellFormed ∧ encode i = [b0, b1, b2].take (instrLength b0)

section
variable {i : Instr} {b0 b1 b2 : Byte}

theorem Reads.one (len : instrLength b0 = 1) (wf : i.WellFormed) (enc : encode i = [b0]) :
    Reads i b0 b1 b2 :=
  ⟨wf, by rw [enc, len]; rfl⟩

theorem Reads.two (len : instrLength b0 = 2) (wf : i.WellFormed) (enc : encode i = [b0, b1]) :
    Reads i b0 b1 b2 :=
  ⟨wf, by rw [enc, len]; rfl⟩

theorem Reads.three (len : instrLength b0 = 3) (wf : i.WellFormed)
    (enc : encode i = [b0, loByte (mkWord b2 b1), hiByte (mkWord b2 b1)]) : Reads i b0 b1 b2 :=
  ⟨wf, by rw [enc, len, loByte_mkWord, hiByte_mkWord]; rfl⟩

end

/-! ### The blocks of the opcode map -/

section
variable {y z : Nat} (hy : y < 8) (hz : z < 8) (b1 b2 : Byte)
include hy hz

/-- R129, by the columns z; in column 1 the low bit of y is q (R122). -/
theorem reads_block0 : Reads (decodeBlock0 y z b1 b2) (opByte 0 y z) b1 b2 := by
  interval_cases z
  · interval_cases y
    · exact .one rfl rfl rfl
    · exact .three rfl rfl rfl
    all_goals exact .two rfl rfl rfl
  · obtain ⟨p, rfl | rfl⟩ := Nat.even_or_odd' y
    all_goals have hp : p < 4 := by omega
    · interval_cases p <;> exact .three rfl rfl rfl
    · interval_cases p <;> exact .one rfl rfl rfl
  · interval_cases y <;> exact .one rfl rfl rfl
  · interval_cases y <;> exact .one rfl rfl rfl
  · interval_cases y <;> exact .one rfl rfl rfl
  · interval_cases y <;> exact .one rfl rfl rfl
  · interval_cases y <;> exact .two rfl rfl rfl
  · interval_cases y <;> exact .one rfl rfl rfl

/-- R130. -/
theorem reads_block1 : Reads (ldOf (operand8Of y) (operand8Of z)) (opByte 1 y z) b1 b2 := by
  interval_cases y <;> interval_cases z <;> exact .one rfl rfl rfl

/-- R131. -/
theorem reads_block2 : Reads (aluOf (aluOpOf y) (operand8Of z)) (opByte 2 y z) b1 b2 := by
  interval_cases y <;> interval_cases z <;> exact .one rfl rfl rfl

/-- R132, by the columns z. The entry left out is the prefix, whose instruction the second table gives. -/
theorem reads_block3 (entry : ¬(y = 1 ∧ z = 3)) :
    Reads (decodeBlock3 (opByte 3 y z) y z b1 b2) (opByte 3 y z) b1 b2 := by
  interval_cases z
  · obtain hcc | hy4 := lt_or_ge y 4
    · interval_cases y <;> exact .one rfl rfl rfl
    · interval_cases y <;> exact .two rfl rfl rfl
  · interval_cases y <;> exact .one rfl rfl rfl
  · obtain hcc | hy4 := lt_or_ge y 4
    · interval_cases y <;> exact .three rfl rfl rfl
    · interval_cases y
      · exact .one rfl rfl rfl
      · exact .three rfl rfl rfl
      · exact .one rfl rfl rfl
      · exact .three rfl rfl rfl
  · interval_cases y
    · exact .three rfl rfl rfl
    · exact absurd ⟨rfl, rfl⟩ entry
    all_goals exact .one rfl rfl rfl
  · obtain hcc | hy4 := lt_or_ge y 4
    · interval_cases y <;> exact .three rfl rfl rfl
    · interval_cases y <;> exact .one rfl rfl rfl
  · interval_cases y
    · exact .one rfl rfl rfl
    · exact .three rfl rfl rfl
    all_goals exact .one rfl rfl rfl
  · interval_cases y <;> exact .two rfl rfl rfl
  · interval_cases y <;> exact .one rfl rfl rfl

end

/-! ### The two tables and the decoder -/

/-- R129 to R132: the first table, but for the prefix. -/
theorem reads_decodeFirst {b0 : Byte} (not_prefix : b0 ≠ 0xCB) (b1 b2 : Byte) :
    Reads (decodeFirst b0 b1 b2) b0 b1 b2 := by
  obtain ⟨x, hx, y, hy, z, hz, rfl⟩ := exists_opByte b0
  obtain ⟨field_x, field_y, field_z⟩ := fields_opByte hx hy hz
  simp only [decodeFirst, field_x, field_y, field_z]
  interval_cases x
  · exact reads_block0 hy hz b1 b2
  · exact reads_block1 hy hz b1 b2
  · exact reads_block2 hy hz b1 b2
  · refine reads_block3 hy hz b1 b2 fun ⟨hy1, hz3⟩ => not_prefix ?_
    rw [hy1, hz3]
    rfl

/-- R133: the second table, each group by its operation or bit number y and its operand z. -/
theorem reads_decodeCb (cb b2 : Byte) : Reads (decodeCb cb) 0xCB cb b2 := by
  obtain ⟨x, hx, y, hy, z, hz, rfl⟩ := exists_opByte cb
  obtain ⟨field_x, field_y, field_z⟩ := fields_opByte hx hy hz
  simp only [decodeCb, field_x, field_y, field_z]
  interval_cases x
  all_goals interval_cases y <;> interval_cases z <;> exact .two rfl rfl rfl

theorem decode_prefix (cb b2 : Byte) : decode 0xCB cb b2 = decodeCb cb := rfl

theorem decode_eq_decodeFirst {b0 b1 b2 : Byte} (wf : (decodeFirst b0 b1 b2).WellFormed) :
    decode b0 b1 b2 = decodeFirst b0 b1 b2 := by
  unfold decode
  split
  next cb entry => rw [entry] at wf; cases wf
  next => rfl

/-- R140: the decoder is total, and what it gives is what the bytes say. -/
theorem reads_decode (b0 b1 b2 : Byte) : Reads (decode b0 b1 b2) b0 b1 b2 := by
  by_cases is_prefix : b0 = 0xCB
  · rw [is_prefix, decode_prefix]
    exact reads_decodeCb b1 b2
  · have reads := reads_decodeFirst is_prefix b1 b2
    rwa [decode_eq_decodeFirst reads.1]

/-- R136, with the lists as the rule has them. -/
theorem instrLength_eq (b : Byte) :
    instrLength b =
      if b.toNat ∈ [0x01, 0x11, 0x21, 0x31, 0x08, 0xC2, 0xC3, 0xC4, 0xCA, 0xCC, 0xCD, 0xD2, 0xD4,
        0xDA, 0xDC, 0xEA, 0xFA] then 3
      else if b.toNat ∈ [0x06, 0x0E, 0x16, 0x1E, 0x26, 0x2E, 0x36, 0x3E, 0x10, 0x18, 0x20, 0x28, 0x30,
        0x38, 0xC6, 0xCE, 0xD6, 0xDE, 0xE6, 0xEE, 0xF6, 0xFE, 0xE0, 0xF0, 0xE8, 0xF8, 0xCB] then 2
      else 1 := by
  revert b
  decide

/-- R134: the eleven holes of the first table. -/
theorem decode_of_mem_illegalOpcodes {b0 : Byte} (hole : b0 ∈ illegalOpcodes) (b1 b2 : Byte) :
    decode b0 b1 b2 = .illegal b0 := by
  revert b0
  simp only [illegalOpcodes, List.forall_mem_cons]
  exact ⟨rfl, rfl, rfl, rfl, rfl, rfl, rfl, rfl, rfl, rfl, rfl, List.forall_mem_nil _⟩

/-! ### A core's own map (R8) -/

section
variable {p : Config} {b0 : Byte} (b1 b2 : Byte)

theorem row_of_mem_illegal (unknown : b0 ∈ p.illegal) : p.row b0 = none := by
  simp [Config.row, unknown]

theorem row_of_not_mem_illegal (known : b0 ∉ p.illegal)
    (row_known : (p.opcodeMap.lookup b0).getD b0 ∉ illegalOpcodes) :
    p.row b0 = some ((p.opcodeMap.lookup b0).getD b0) := by
  simp [Config.row, known, row_known]

theorem config_decode_of_row_none (row : p.row b0 = none) :
    p.decode b0 b1 b2 = .illegal b0 ∧ p.instrLength b0 = 1 := by
  simp only [Config.decode, Config.instrLength, row, and_self]

theorem config_decode_of_row_some {r : Byte} (row : p.row b0 = some r) :
    p.instrLength b0 = instrLength r ∧
      p.decode b0 b1 b2 = decode r (if r = 0xCB then p.cbRow b1 else b1) b2 := by
  simp only [Config.decode, Config.instrLength, row, and_self]

end

/-- The default map selects for every byte its own row. -/
theorem default_decode (b0 b1 b2 : Byte) :
    Config.default.decode b0 b1 b2 = decode b0 b1 b2 ∧
      Config.default.instrLength b0 = instrLength b0 := by
  by_cases hole : b0 ∈ illegalOpcodes
  · have row : Config.default.row b0 = none := row_of_mem_illegal hole
    rw [decode_of_mem_illegalOpcodes hole, Laws.Encoding.illegal_length b0 hole]
    exact config_decode_of_row_none b1 b2 row
  · have row : Config.default.row b0 = some b0 := row_of_not_mem_illegal hole hole
    obtain ⟨len, dec⟩ := config_decode_of_row_some b1 b2 row
    have own_row : Config.default.cbRow b1 = b1 := rfl
    rw [own_row, ite_self] at dec
    exact ⟨dec, len⟩

/-- Settles O4: what the decoder reads block by block, and the row a core's parameters select. -/
theorem encodeDecode : Obligations.EncodeDecode := by
  intro b0 b1 b2
  obtain ⟨wf, enc⟩ := reads_decode b0 b1 b2
  exact ⟨wf, enc, instrLength_eq b0,
    fun p unknown => config_decode_of_row_none b1 b2 (row_of_mem_illegal unknown),
    fun p known row_known =>
      config_decode_of_row_some b1 b2 (row_of_not_mem_illegal known row_known),
    default_decode b0 b1 b2⟩

end Sys2Proof.Proofs.Encoding
end

section
/-!
PROOFS. The device update (R365) keeps the devices' invariants: the PPU ends at a point of a frame
(R420, R430), the sub-counters stay below their periods (R380 to R382), and the APU's power and
counter stay as NR52 says (R471, R480).
-/

namespace Sys2Proof.Machine

/-! ### The PPU's buffers -/

/-- The buffers of the PPU have their shapes (R420, R446). -/
structure PpuBuffers (p : Ppu) : Prop where
  rows : p.fb.length = 144
  columns : ∀ row ∈ p.fb, row.length = 160
  indices : p.bgIdx.length = 160
  sprites : p.sprites.length ≤ 10 ∧ ∀ n ∈ p.sprites, n < 40

/-- Mode and line go together: V-blank is lines 144 to 153 (R431). -/
structure PpuPlace (p : Ppu) : Prop where
  line : p.line < 154
  mode : p.mode = .vblank ↔ 144 ≤ p.line

theorem ppuOk_iff (p : Ppu) :
    PpuOk p ↔ PpuPlace p ∧ PpuBuffers p ∧ p.modeClock < p.mode.duration :=
  ⟨fun h => ⟨⟨h.line, h.mode⟩, ⟨h.rows, h.columns, h.indices, h.sprites⟩, h.clock⟩,
    fun ⟨place, buffers, clock⟩ => ⟨place.line, place.mode, clock, buffers.rows, buffers.columns,
      buffers.indices, buffers.sprites⟩⟩

theorem length_bgLine (m : Memory) (ly : Nat) : (bgLine m ly).length = 160 := by
  simp [bgLine]

theorem length_bgShades (m : Memory) (idx : List (BitVec 2)) :
    (bgShades m idx).length = idx.length := by
  simp [bgShades]

theorem length_insertByX (m : Memory) (n : Nat) (ks : List Nat) :
    (insertByX m n ks).length = ks.length + 1 := by
  induction ks with
  | nil => rfl
  | cons k ks ih =>
    unfold insertByX
    split
    · rfl
    · rw [List.length_cons, ih, List.length_cons]

theorem mem_insertByX {m : Memory} {n j : Nat} {ks : List Nat} (h : j ∈ insertByX m n ks) :
    j = n ∨ j ∈ ks := by
  induction ks with
  | nil => exact .inl (List.mem_singleton.mp h)
  | cons k ks ih =>
    unfold insertByX at h
    split at h
    · exact List.mem_cons.mp h
    · rcases List.mem_cons.mp h with rfl | h
      · exact .inr List.mem_cons_self
      · exact (ih h).imp_right (List.mem_cons_of_mem _)

/-- Sorting a list of OAM indices into another adds its length and its members. -/
theorem foldl_insertByX (m : Memory) (ns acc : List Nat) :
    (ns.foldl (fun acc n => insertByX m n acc) acc).length = acc.length + ns.length ∧
      ∀ j ∈ ns.foldl (fun acc n => insertByX m n acc) acc, j ∈ acc ∨ j ∈ ns := by
  induction ns generalizing acc with
  | nil => exact ⟨rfl, fun j hj => .inl hj⟩
  | cons n ns ih =>
    obtain ⟨len, mem⟩ := ih (insertByX m n acc)
    refine ⟨?_, fun j hj => ?_⟩
    · rw [List.foldl_cons, len, length_insertByX, List.length_cons]
      omega
    · rcases mem j hj with hj | hj
      · exact (mem_insertByX hj).symm.imp_right fun same => List.mem_cons.mpr (.inl same)
      · exact .inr (List.mem_cons_of_mem _ hj)

/-- At most ten sprites, all of them OAM entries (R446). -/
theorem scanOam_bounds (m : Memory) (ly : Nat) :
    (scanOam m ly).length ≤ 10 ∧ ∀ n ∈ scanOam m ly, n < 40 := by
  obtain ⟨len, mem⟩ := foldl_insertByX m (((List.range 40).filter (spriteOnLine m ly)).take 10) []
  refine ⟨?_, fun n hn => ?_⟩
  · rw [scanOam, len, List.length_nil, Nat.zero_add]
    exact List.length_take_le 10 _
  · have listed := (mem n hn).resolve_left List.not_mem_nil
    exact List.mem_range.mp (List.mem_filter.mp (List.mem_of_mem_take listed)).1

theorem PpuBuffers.scanLine {s : State} (h : PpuBuffers s.ppu) : PpuBuffers s.scanLine.ppu :=
  ⟨h.rows, h.columns, h.indices, scanOam_bounds s.mem s.ppu.line⟩

theorem PpuBuffers.renderLine {s : State} (h : PpuBuffers s.ppu) : PpuBuffers s.renderLine.ppu where
  rows := List.length_set.trans h.rows
  columns := fun row hrow => by
    rcases List.mem_or_eq_of_mem_set hrow with old | rfl
    · exact h.columns row old
    · split
      · rw [List.length_map, List.length_range]
      · rw [length_bgShades, length_bgLine]
  indices := length_bgLine s.mem s.ppu.line
  sprites := h.sprites

theorem PpuBuffers.drawWindow {s : State} (h : PpuBuffers s.ppu) : PpuBuffers s.drawWindow.ppu := by
  unfold State.drawWindow
  split
  · refine ⟨List.length_mapIdx.trans h.rows, fun row hrow => ?_, h.indices, h.sprites⟩
    obtain ⟨i, hi, rfl⟩ := List.mem_mapIdx.mp hrow
    exact List.length_mapIdx.trans (h.columns _ (List.getElem_mem hi))
  · exact h

/-! ### The mode machine -/

@[simp] theorem State.requestInterrupt_ppu (s : State) (kind : Nat) :
    (s.requestInterrupt kind).ppu = s.ppu := rfl

@[simp] theorem State.setMode_ppu (s : State) (m : PpuMode) :
    (s.setMode m).ppu = { s.ppu with mode := m } := by
  unfold State.setMode
  dsimp only
  split <;> rfl

@[simp] theorem State.setLine_ppu (s : State) (n : Nat) :
    (s.setLine n).ppu = { s.ppu with line := n } := by
  unfold State.setLine
  dsimp only
  repeat' split
  all_goals rfl

@[simp] theorem State.endMode_ppu (s : State) :
    s.endMode.ppu = { s.ppu with modeClock := s.ppu.modeClock - s.ppu.mode.duration } := rfl

/-- Entering V-blank is mode 1 at the line and the clock that there were (R433). -/
theorem State.enterVblank_place (s : State) :
    s.enterVblank.ppu.mode = .vblank ∧ s.enterVblank.ppu.line = s.ppu.line ∧
      s.enterVblank.ppu.modeClock = s.ppu.modeClock := by
  unfold State.enterVblank State.drawWindow
  dsimp only
  split <;> simp

/-- A change of mode, line or clock leaves the buffers. -/
theorem PpuBuffers.atPlace {p : Ppu} (h : PpuBuffers p) (m : PpuMode) (line clock : Nat) :
    PpuBuffers { p with mode := m, line := line, modeClock := clock } :=
  ⟨h.rows, h.columns, h.indices, h.sprites⟩

theorem PpuBuffers.setMode {s : State} (h : PpuBuffers s.ppu) (m : PpuMode) :
    PpuBuffers (s.setMode m).ppu :=
  s.setMode_ppu m ▸ h.atPlace m s.ppu.line s.ppu.modeClock

theorem PpuBuffers.setLine {s : State} (h : PpuBuffers s.ppu) (n : Nat) :
    PpuBuffers (s.setLine n).ppu :=
  s.setLine_ppu n ▸ h.atPlace s.ppu.mode n s.ppu.modeClock

theorem PpuBuffers.endMode {s : State} (h : PpuBuffers s.ppu) : PpuBuffers s.endMode.ppu :=
  h.atPlace s.ppu.mode s.ppu.line _

theorem PpuBuffers.enterVblank {s : State} (h : PpuBuffers s.ppu) : PpuBuffers s.enterVblank.ppu :=
  PpuBuffers.drawWindow (s := (s.setMode .vblank).requestInterrupt 0) (h.setMode .vblank)

/-- A transition keeps the shapes of the buffers (R430). -/
theorem PpuBuffers.leaveMode {s : State} (h : PpuBuffers s.ppu) : PpuBuffers s.leaveMode.ppu := by
  have ended := h.endMode
  unfold State.leaveMode
  split
  · exact ended.scanLine.setMode .transfer
  · exact ended.renderLine.setMode .hblank
  · dsimp only
    split
    · exact (ended.setLine _).enterVblank
    · exact (ended.setLine _).setMode .oamScan
  · split
    · exact (ended.setLine 0).setMode .oamScan
    · exact ended.setLine _

/-- The mode and the line after the transition out of the current mode (R430, R431). -/
def Ppu.nextPlace (p : Ppu) : PpuMode × Nat :=
  match p.mode with
  | .oamScan => (.transfer, p.line)
  | .transfer => (.hblank, p.line)
  | .hblank => (if p.line + 1 = 144 then .vblank else .oamScan, p.line + 1)
  | .vblank => if p.line = 153 then (.oamScan, 0) else (.vblank, p.line + 1)

theorem State.leaveMode_place (s : State) :
    (s.leaveMode.ppu.mode, s.leaveMode.ppu.line) = s.ppu.nextPlace := by
  unfold State.leaveMode
  split
  · next m => simp [Ppu.nextPlace, m, State.scanLine]
  · next m => simp [Ppu.nextPlace, m, State.renderLine]
  · next m =>
    simp only [Ppu.nextPlace, m, State.setLine_ppu, State.endMode_ppu]
    split
    · simp [State.enterVblank_place]
    · simp
  · next m =>
    simp only [Ppu.nextPlace, m]
    split
    · simp
    · simp [m]

/-- A transition takes the cycles of the mode that ends off the counter (R430). -/
theorem State.leaveMode_modeClock (s : State) :
    s.leaveMode.ppu.modeClock = s.ppu.modeClock - s.ppu.mode.duration := by
  unfold State.leaveMode
  split
  · simp [State.scanLine]
  · simp [State.renderLine]
  · dsimp only
    split
    · simp [State.enterVblank_place]
    · simp
  · split
    · simp
    · simp

/-- A transition keeps mode and line together. -/
theorem PpuPlace.leaveMode {s : State} (h : PpuPlace s.ppu) : PpuPlace s.leaveMode.ppu := by
  obtain ⟨line, vblank⟩ := h
  have place := s.leaveMode_place
  cases m : s.ppu.mode <;> simp only [Ppu.nextPlace, m] at place vblank
  case oamScan =>
    obtain ⟨mode', line'⟩ := Prod.mk.inj place
    constructor <;> simp_all
  case transfer =>
    obtain ⟨mode', line'⟩ := Prod.mk.inj place
    constructor <;> simp_all
  case hblank =>
    obtain ⟨mode', line'⟩ := Prod.mk.inj place
    have visible : s.ppu.line < 144 := by simpa using vblank
    constructor <;> rw [line']
    · omega
    · rw [mode']
      split <;> simp <;> omega
  case vblank =>
    split at place
    all_goals
      obtain ⟨mode', line'⟩ := Prod.mk.inj place
      constructor <;> simp_all <;> omega

theorem PpuMode.duration_ge (m : PpuMode) : 80 ≤ m.duration := by
  cases m <;> decide

/-- The loop of the update ends at a point of a frame: each transition takes at least 80 cycles off
the counter, so its bound is enough (R430). -/
theorem State.ppuLoop_ok {n : Nat} {s : State} (place : PpuPlace s.ppu) (buffers : PpuBuffers s.ppu)
    (enough : s.ppu.modeClock < 80 * n) : PpuOk (State.ppuLoop n s).ppu := by
  induction n generalizing s with
  | zero => omega
  | succ n ih =>
    unfold State.ppuLoop
    split
    · next due =>
      refine ih place.leaveMode buffers.leaveMode ?_
      have long := s.ppu.mode.duration_ge
      rw [s.leaveMode_modeClock]
      omega
    · next early => exact (ppuOk_iff _).mpr ⟨place, buffers, by omega⟩

theorem PpuOk.ppuUpdate {s : State} (h : PpuOk s.ppu) (delta : Nat) :
    PpuOk (s.ppuUpdate delta).ppu := by
  obtain ⟨place, buffers, -⟩ := (ppuOk_iff _).mp h
  unfold State.ppuUpdate
  dsimp only
  split
  · exact h
  · refine State.ppuLoop_ok ⟨place.line, place.mode⟩
      (buffers.atPlace s.ppu.mode s.ppu.line (s.ppu.modeClock + delta)) ?_
    show s.ppu.modeClock + delta < 80 * ((s.ppu.modeClock + delta) / 80 + 1)
    omega

/-! ### What each device's update leaves of the other devices -/

/-- From `s` to `t` the timer and the APU are the same. -/
def SameTimerApu (s t : State) : Prop := t.timer = s.timer ∧ t.apu = s.apu

theorem SameTimerApu.trans {s t u : State} (h : SameTimerApu s t) (k : SameTimerApu t u) :
    SameTimerApu s u :=
  ⟨k.1.trans h.1, k.2.trans h.2⟩

theorem State.setMode_timerApu (s : State) (m : PpuMode) : SameTimerApu s (s.setMode m) := by
  unfold State.setMode
  dsimp only
  split <;> exact ⟨rfl, rfl⟩

theorem State.setLine_timerApu (s : State) (n : Nat) : SameTimerApu s (s.setLine n) := by
  unfold State.setLine
  dsimp only
  repeat' split
  all_goals exact ⟨rfl, rfl⟩

theorem State.enterVblank_timerApu (s : State) : SameTimerApu s s.enterVblank := by
  have mode := s.setMode_timerApu .vblank
  unfold State.enterVblank State.drawWindow
  dsimp only
  split <;> exact mode

theorem State.leaveMode_timerApu (s : State) : SameTimerApu s s.leaveMode := by
  have ended : SameTimerApu s s.endMode := ⟨rfl, rfl⟩
  unfold State.leaveMode
  split
  · exact SameTimerApu.trans (t := s.endMode.scanLine) ended (State.setMode_timerApu _ _)
  · exact SameTimerApu.trans (t := s.endMode.renderLine) ended (State.setMode_timerApu _ _)
  · dsimp only
    split
    · exact (ended.trans (State.setLine_timerApu _ _)).trans (State.enterVblank_timerApu _)
    · exact (ended.trans (State.setLine_timerApu _ _)).trans (State.setMode_timerApu _ _)
  · split
    · exact (ended.trans (State.setLine_timerApu _ _)).trans (State.setMode_timerApu _ _)
    · exact ended.trans (State.setLine_timerApu _ _)

theorem State.ppuLoop_timerApu (n : Nat) (s : State) : SameTimerApu s (State.ppuLoop n s) := by
  induction n generalizing s with
  | zero => exact ⟨rfl, rfl⟩
  | succ n ih =>
    unfold State.ppuLoop
    split
    · exact s.leaveMode_timerApu.trans (ih _)
    · exact ⟨rfl, rfl⟩

theorem State.ppuUpdate_timerApu (s : State) (delta : Nat) :
    SameTimerApu s (s.ppuUpdate delta) := by
  unfold State.ppuUpdate
  dsimp only
  split
  · exact ⟨rfl, rfl⟩
  · exact State.ppuLoop_timerApu _
      { s with vblank := false, ppu := { s.ppu with modeClock := s.ppu.modeClock + delta } }

/-- From `s` to `t` the PPU, the timer and the APU are the same. -/
def SameRecords (s t : State) : Prop := t.ppu = s.ppu ∧ t.timer = s.timer ∧ t.apu = s.apu

theorem State.timaTick_records (s : State) : SameRecords s s.timaTick := by
  unfold State.timaTick
  split <;> exact ⟨rfl, rfl, rfl⟩

theorem State.timaTicks_records (n : Nat) (s : State) :
    SameRecords s (iterate State.timaTick n s) :=
  iterate_rel (r := SameRecords) (fun _ => ⟨rfl, rfl, rfl⟩)
    (fun h k => ⟨k.1.trans h.1, k.2.1.trans h.2.1, k.2.2.trans h.2.2⟩) State.timaTick_records n s

theorem State.timerUpdate_ppu_apu (s : State) (delta : Nat) :
    (s.timerUpdate delta).ppu = s.ppu ∧ (s.timerUpdate delta).apu = s.apu := by
  unfold State.timerUpdate State.timaUpdate
  dsimp only
  split
  · obtain ⟨ppu, -, apu⟩ := State.timaTicks_records
      (((s.dividerUpdate delta).timer.timaSub + delta) /
        timerPeriod ((s.dividerUpdate delta).peek 0xFF07))
      { s.dividerUpdate delta with timer := { (s.dividerUpdate delta).timer with
          timaSub := ((s.dividerUpdate delta).timer.timaSub + delta) %
            timerPeriod ((s.dividerUpdate delta).peek 0xFF07) } }
    exact ⟨ppu, apu⟩
  · exact ⟨rfl, rfl⟩

/-! ### Timer and APU -/

theorem timerPeriod_bounds (tac : Byte) : 0 < timerPeriod tac ∧ timerPeriod tac ≤ 1024 := by
  have bounds : ∀ k : BitVec 2, 0 < ([1024, 16, 64, 256] : List Nat).getD k.toNat 1024 ∧
      ([1024, 16, 64, 256] : List Nat).getD k.toNat 1024 ≤ 1024 := by decide
  exact bounds _

theorem TimerOk.dividerUpdate {s : State} (h : TimerOk s) (delta : Nat) :
    TimerOk (s.dividerUpdate delta) :=
  ⟨Nat.mod_lt _ (by decide), h.tima⟩

theorem TimerOk.timaUpdate {s : State} (h : TimerOk s) (delta : Nat) :
    TimerOk (s.timaUpdate delta) := by
  unfold State.timaUpdate
  dsimp only
  split
  · obtain ⟨-, timer, -⟩ := State.timaTicks_records
      ((s.timer.timaSub + delta) / timerPeriod (s.peek 0xFF07))
      { s with timer := { s.timer with
          timaSub := (s.timer.timaSub + delta) % timerPeriod (s.peek 0xFF07) } }
    obtain ⟨pos, le⟩ := timerPeriod_bounds (s.peek 0xFF07)
    constructor <;> rw [timer]
    · exact h.div
    · exact (Nat.mod_lt _ pos).trans_le le
  · exact h

/-- From `u` to `v` the power and the sequencer's counter are the same. -/
def SamePower (u v : Apu) : Prop := v.power = u.power ∧ v.fsClock = u.fsClock

theorem Apu.sequencerStep_power (m : Memory) (u : Apu) : SamePower u (u.sequencerStep m) := by
  unfold Apu.sequencerStep Apu.clockSweep
  dsimp only
  repeat' split
  all_goals exact ⟨rfl, rfl⟩

/-- The update moves a powered APU, whose counter stays below one step (R480). -/
theorem Apu.update_cases (u : Apu) (m : Memory) (delta : Nat) :
    (u.power = false ∧ u.update m delta = u) ∨
      (u.power = true ∧ (u.update m delta).power = true ∧ (u.update m delta).fsClock < 8192) := by
  unfold Apu.update
  cases on : u.power with
  | false => exact .inl ⟨rfl, rfl⟩
  | true =>
    obtain ⟨power, clock⟩ := iterate_rel (r := SamePower) (fun _ => ⟨rfl, rfl⟩)
      (fun h k => ⟨k.1.trans h.1, k.2.trans h.2⟩) (Apu.sequencerStep_power m)
      ((u.fsClock + delta) / 8192)
      { u.advance m delta with fsClock := (u.fsClock + delta) % 8192 }
    exact .inr ⟨rfl, power.trans on, clock.trans_lt (Nat.mod_lt _ (by decide))⟩

theorem ApuOk.apuUpdate {s : State} (h : ApuOk s) (delta : Nat) : ApuOk (s.apuUpdate delta) := by
  show ApuOk { s with apu := s.apu.update s.mem delta }
  rcases s.apu.update_cases s.mem delta with ⟨-, same⟩ | ⟨on, on', clock⟩
  · rw [same]
    exact h
  · have power := h.power
    rw [on] at power
    exact ⟨by rw [on']; exact power, fun off => absurd (on'.symm.trans off) (by decide),
      fun off => absurd (on'.symm.trans off) (by decide), clock⟩

/-! ### The device update -/

theorem StoresOk.devices {s t : State} (h : StoresOk s) (k : DeviceFrame s t) : StoresOk t :=
  ⟨k.wf h.mem_wf, k.below h.mem_below, k.extRam ▸ h.ext_wf, k.extRam ▸ h.ext_below,
    k.rom ▸ h.rom_wf, k.rom ▸ h.rom_below⟩

/-- Neither a device nor an IF that has its byte to itself writes to work RAM, its echo or the APU's
registers. -/
theorem DeviceFrame.peek_of_ok {s t : State} (k : DeviceFrame s t) (ok : s.cfg.Ok) {n : Nat}
    (hn : n ≤ 0xFDFF ∨ 0xFF10 ≤ n ∧ n ≤ 0xFF26) : t.peek n = s.peek n := by
  refine k.peek n ?_ ?_
  · simp only [deviceBytes, List.mem_cons, List.not_mem_nil, or_false]
    omega
  · rcases ok with ok | ok | ok <;> omega

theorem EchoOk.devices {s t : State} (h : EchoOk s) (k : DeviceFrame s t) (ok : s.cfg.Ok) :
    EchoOk t := fun n lo hi => by
  rw [k.peek_of_ok ok (.inl (by omega)), k.peek_of_ok ok (.inl (by omega))]
  exact h n lo hi

theorem ApuOk.devices {s t : State} (h : ApuOk s) (k : DeviceFrame s t) (ok : s.cfg.Ok)
    (apu : t.apu = s.apu) : ApuOk t where
  power := by rw [k.peek_of_ok ok (.inr (by omega)), apu]; exact h.power
  registers := fun off n lo hi => by
    rw [k.peek_of_ok ok (.inr (by omega))]
    exact h.registers (apu ▸ off) n lo hi
  silent := apu.symm ▸ h.silent
  clock := apu.symm ▸ h.clock

theorem CpuOk.devices {s t : State} (h : CpuOk s) (k : DeviceFrame s t) : CpuOk t where
  flags := k.f ▸ h.flags
  halted_enable := by rw [k.halted, k.pendingIE]; exact h.halted_enable
  halted_penalty := by rw [k.halted, k.wakePenalty]; exact h.halted_penalty
  wrap := by rw [k.cfg, k.pcOverflow]; exact h.wrap

/-- The device update keeps the invariant (R365). -/
theorem Inv.feedDevices {s : State} (h : Inv s) (delta : Nat) : Inv (s.feedDevices delta) := by
  have frame := s.feedDevices_frame delta
  have ppuFrame := s.ppuUpdate_frame delta
  have timerFrame := (s.ppuUpdate delta).timerUpdate_frame delta
  obtain ⟨timer, apu⟩ := s.ppuUpdate_timerApu delta
  obtain ⟨ppu', apu'⟩ := (s.ppuUpdate delta).timerUpdate_ppu_apu delta
  have timerOk : TimerOk (s.ppuUpdate delta) :=
    ⟨timer.symm ▸ h.timer.div, timer.symm ▸ h.timer.tima⟩
  have fed := (timerOk.dividerUpdate delta).timaUpdate delta
  exact {
    cfg := frame.cfg.symm ▸ h.cfg
    stores := h.stores.devices frame
    echo := h.echo.devices frame h.cfg
    cpu := h.cpu.devices frame
    mbc := ⟨frame.mbc.symm ▸ h.mbc.nonzero, frame.mbc.symm ▸ h.mbc.five_bits⟩
    timer := ⟨fed.div, fed.tima⟩
    ppu := show PpuOk ((s.ppuUpdate delta).timerUpdate delta).ppu from
      ppu'.symm ▸ h.ppu.ppuUpdate delta
    apu := ApuOk.apuUpdate
      (h.apu.devices (ppuFrame.trans timerFrame) h.cfg (apu'.trans apu)) delta }

end Sys2Proof.Machine
end

section
/-!
PROOFS. What a step does to the control state of the core (R27 to R31, R360 to R364): which
instructions write it, the halted tick, the stopped core, and the invariant that every step keeps.
-/

namespace Sys2Proof.Machine

/-! ### The control state after an instruction -/

theorem Instr.isControl_cases {i : Instr} (h : Instr.isControl i = true) :
    i = .halt ∨ i = .di ∨ i = .ei ∨ i = .reti ∨ (∃ pad, i = .stop pad) ∨ ∃ op, i = .illegal op := by
  unfold Instr.isControl at h
  split at h <;> simp_all

/-- The three answers of `STOP` (R333). -/
theorem execStop_cases {s t : State} {pad : Byte} (h : exec (.stop pad) s = .next t) :
    t = (s.addCycles (s.cost 0x10)).raise .stopInstruction ∨ t = s.addCycles (s.cost 0x10) ∨
      t = s.raise (.unknownOpcode 0x10 (s.pc - 2)) := by
  change execStop pad s = .next t at h
  unfold execStop at h
  split at h <;> cases h
  · exact .inl rfl
  · exact .inr (.inl rfl)
  · exact .inr (.inr rfl)

/-- Settles O38: `exec_control` for every instruction but the six that write the control state,
whose answers are known. -/
theorem controlStateWriters : Obligations.ControlStateWriters := by
  intro i s t run
  have wake : t.wakePenalty = s.wakePenalty := (exec_keeps run).wakePenalty
  cases control : Instr.isControl i with
  | false =>
    have same := exec_control control run
    exact ⟨fun _ => same.halted, fun _ _ => same.ime, fun _ _ => same.pendingIE,
      fun _ _ => same.run, wake⟩
  | true =>
    obtain rfl | rfl | rfl | rfl | ⟨pad, rfl⟩ | ⟨op, rfl⟩ := Instr.isControl_cases control
    · cases run
      exact ⟨fun h => absurd rfl h, fun _ _ => rfl, fun _ _ => rfl, fun _ _ => rfl, wake⟩
    · cases run
      exact ⟨fun _ => rfl, fun h => absurd rfl h, fun h => absurd rfl h, fun _ _ => rfl, wake⟩
    · cases run
      exact ⟨fun _ => rfl, fun _ _ => rfl, fun _ h => absurd rfl h, fun _ _ => rfl, wake⟩
    · cases run
      have same := s.ret_control
      exact ⟨fun _ => same.halted, fun _ h => absurd rfl h, fun _ _ => same.pendingIE,
        fun _ _ => same.run, wake⟩
    · obtain rfl | rfl | rfl := execStop_cases run <;>
        exact ⟨fun _ => rfl, fun _ _ => rfl, fun _ _ => rfl, fun h => absurd rfl (h pad), wake⟩
    · cases run
      exact ⟨fun _ => rfl, fun _ _ => rfl, fun _ _ => rfl, fun _ h => absurd rfl (h op), wake⟩

/-- Under the policy `wrap` no instruction sets the overflow mark (R23). -/
theorem exec_mark {i : Instr} {s t : State} (run : exec i s = .next t)
    (wrap : s.cfg.pcOverflowPolicy = .wrap) (mark : s.pcOverflow = false) :
    t.pcOverflow = false := by
  cases control : Instr.isControl i with
  | false => exact (exec_control control run).mark wrap mark
  | true =>
    obtain rfl | rfl | rfl | rfl | ⟨pad, rfl⟩ | ⟨op, rfl⟩ := Instr.isControl_cases control
    case inr.inr.inr.inl => cases run; exact s.ret_control.mark wrap mark
    case inr.inr.inr.inr.inl => obtain rfl | rfl | rfl := execStop_cases run <;> exact mark
    all_goals cases run; exact mark

/-- An instruction that raises a fatal fault, `STOP` or an illegal opcode, does nothing else (R333,
R337, R350). -/
theorem exec_faulted {i : Instr} {s t : State} (live : s.Live) (run : exec i s = .next t)
    (fatal : t.faulted = true) : ∃ r, t = s.raise r := by
  have running : ∀ {u : State}, u.Live → u.faulted ≠ true := fun h => by simp [State.faulted, h]
  by_cases stop : ∃ pad, i = .stop pad
  · obtain ⟨pad, rfl⟩ := stop
    obtain rfl | rfl | rfl := execStop_cases run
    · cases fatal
    · exact absurd fatal (running live)
    · exact ⟨_, rfl⟩
  by_cases illegal : ∃ op, i = .illegal op
  · obtain ⟨op, rfl⟩ := illegal
    cases run
    exact ⟨_, rfl⟩
  · obtain ⟨-, -, -, same, -⟩ := controlStateWriters i s t run
    have live' : t.Live := (same (not_exists.mp stop) (not_exists.mp illegal)).trans live
    exact absurd fatal (running live')

/-! ### The end of an instruction -/

theorem State.payWakePenalty_eq (s : State) :
    s.payWakePenalty = { s with
      cycles := s.cycles + if s.wakePenalty then s.cfg.haltWakePenalty else 0
      wakePenalty := false } := by
  unfold State.payWakePenalty
  split
  · rfl
  · next paid => apply State.ext <;> simp [paid]

theorem State.promoteEnable_eq (s : State) (promote : Bool) :
    s.promoteEnable promote = { s with
      ime := s.ime || (promote && s.pendingIE)
      pendingIE := s.pendingIE && !(promote && s.pendingIE) } := by
  unfold State.promoteEnable
  split
  · next due => apply State.ext <;> simp [due]
  · next none => apply State.ext <;> simp [none]

/-- The end of an instruction as one update of F, the cycle counter, the penalty and the interrupt
flags (R364). -/
theorem State.finishInstr_eq (s : State) (promote : Bool) :
    s.finishInstr promote = { s with
      f := s.f &&& 0xF0
      cycles := s.cycles + if s.wakePenalty then s.cfg.haltWakePenalty else 0
      wakePenalty := false
      ime := s.ime || (promote && s.pendingIE)
      pendingIE := s.pendingIE && !(promote && s.pendingIE) } := by
  rw [State.finishInstr, State.payWakePenalty_eq, State.promoteEnable_eq]
  rfl

theorem mask_lowNibble (f : Byte) : f &&& 0xF0 &&& 0x0F = 0 := by
  rw [BitVec.and_assoc]
  exact BitVec.and_zero

/-- Settles O46: an iteration that raised no fatal fault ended with the masking of F. -/
theorem flagsLowNibble : Obligations.FlagsLowNibble := by
  intro s t none awake next noFault
  obtain ⟨-, steps⟩ := step_cases next
  cases steps with
  | dispatch takes _ => rw [none] at takes; cases takes
  | tick _ halted _ => rw [awake] at halted; cases halted
  | fatal _ _ fetch =>
    obtain ⟨r, fatal, stopped⟩ := (State.fetchInstr_fatal fetch).run
    rw [State.faulted, stopped] at noFault
    exact absurd fatal (by simpa using noFault)
  | instr _ _ i u v _ _ eq =>
    subst eq
    unfold State.settle at noFault ⊢
    split
    · next fatal =>
      rw [if_pos fatal, fatal] at noFault
      cases noFault
    · rw [State.feedSince, State.feedDevices_f, State.finishInstr_eq]
      exact mask_lowNibble v.f

/-! ### The halted tick and the stopped core -/

/-- The halted tick as one update of the state (R363). -/
theorem State.haltedTick_eq (s : State) :
    s.haltedTick = if s.pending = 0 then { s with cycles := s.cycles + 4 } else { s with
      cycles := s.cycles + 4, halted := false, wakePenalty := true
      pc := if s.ime then s.pc else s.pc - 1 } := by
  unfold State.haltedTick
  by_cases quiet : s.pending = 0
  · rw [if_pos quiet, if_neg (fun h => (bne_iff_ne.mp h) quiet)]
    rfl
  · rw [if_neg quiet, if_pos (bne_iff_ne.mpr quiet)]
    rfl

/-- Settles O41: the branch of the iteration, and the 4 cycles that the devices are fed. -/
theorem haltedTick : Obligations.HaltedTick := by
  intro s live halted none
  have branch : step s = .next (s.haltedTick.feedSince s.cycles) := by
    unfold step iteration
    rw [live]
    simp [none, halted]
  have four : s.haltedTick.cycles - s.cycles = 4 := by
    rw [State.haltedTick_eq]
    split <;> exact Nat.add_sub_cancel_left (n := s.cycles) (m := 4)
  rw [branch, State.feedSince, four, State.haltedTick_eq]
  rfl

/-- Settles O44. -/
theorem stoppedCore : Obligations.StoppedCore :=
  fun _ _ _ => ⟨step_of_stopped, step_of_stopped, step_of_stopped, step_of_stopped⟩

/-! ### The invariant -/

/-- The invariant but for the core's own part of it. -/
structure MachineOk (s : State) : Prop where
  cfg : Config.Ok s.cfg
  stores : StoresOk s
  echo : EchoOk s
  mbc : MbcOk s
  timer : TimerOk s
  ppu : PpuOk s.ppu
  apu : ApuOk s

theorem inv_iff (s : State) : Inv s ↔ MachineOk s ∧ CpuOk s :=
  ⟨fun h => ⟨⟨h.cfg, h.stores, h.echo, h.mbc, h.timer, h.ppu, h.apu⟩, h.cpu⟩,
    fun ⟨m, c⟩ => ⟨m.cfg, m.stores, m.echo, c, m.mbc, m.timer, m.ppu, m.apu⟩⟩

theorem MachineOk.keeps {s t : State} (h : MachineOk s) (k : Keeps s t) : MachineOk t where
  cfg := k.cfg.symm ▸ h.cfg
  stores := k.stores h.stores
  echo := k.echo h.echo
  mbc := k.mbc h.mbc
  timer := k.timer h.timer
  ppu := k.ppu.symm ▸ h.ppu
  apu := k.apu h.apu

/-- The wake penalty is no part of it. -/
theorem MachineOk.setWakePenalty {s : State} (h : MachineOk s) (b : Bool) :
    MachineOk { s with wakePenalty := b } where
  cfg := h.cfg
  stores := ⟨h.stores.mem_wf, h.stores.mem_below, h.stores.ext_wf, h.stores.ext_below,
    h.stores.rom_wf, h.stores.rom_below⟩
  echo := h.echo
  mbc := ⟨h.mbc.nonzero, h.mbc.five_bits⟩
  timer := ⟨h.timer.div, h.timer.tima⟩
  ppu := h.ppu
  apu := ⟨h.apu.power, h.apu.registers, h.apu.silent, h.apu.clock⟩

theorem MachineOk.haltedTick {s : State} (h : MachineOk s) : MachineOk s.haltedTick := by
  rw [State.haltedTick_eq]
  split
  · exact h.keeps Keeps.same
  · exact (h.setWakePenalty true).keeps Keeps.same

theorem MachineOk.finishInstr {s : State} (h : MachineOk s) (promote : Bool) :
    MachineOk (s.finishInstr promote) := by
  rw [State.finishInstr_eq]
  exact (h.setWakePenalty false).keeps Keeps.same

theorem State.takeInterrupt_keeps (s : State) (i : Nat) : Keeps s (s.takeInterrupt i) := by
  have awake : Keeps s { s with halted := false } := Keeps.same
  have land : ∀ {t : State}, Keeps s t →
      Keeps s (({ t with ime := false }.jumpTo (vector i)).addCycles 20) :=
    fun h => h.trans Keeps.same
  exact land ((awake.trans (State.push16_keeps _ s.pc)).trans (State.busWrite_keeps _ _ _))

/-- A core that is not halted has only F and the mark to keep. -/
theorem CpuOk.ofAwake {s t : State} (h : CpuOk s) (awake : t.halted = false) (f : t.f = s.f)
    (mark : t.cfg.pcOverflowPolicy = .wrap → t.pcOverflow = false) : CpuOk t :=
  ⟨f ▸ h.flags, fun halted => absurd (awake.symm.trans halted) (by decide),
    fun halted => absurd (awake.symm.trans halted) (by decide), mark⟩

/-- A dispatch leaves F, ends the halt, and clears the mark (R362). -/
theorem CpuOk.takeInterrupt {s : State} (h : CpuOk s) (i : Nat) : CpuOk (s.takeInterrupt i) := by
  have f : (s.takeInterrupt i).f = s.f := by
    simp [State.takeInterrupt, State.push16, State.pushByte]
  have awake : (s.takeInterrupt i).halted = false := by
    simp [State.takeInterrupt, State.push16, State.pushByte]
  exact h.ofAwake awake f fun _ => rfl

/-- A halted tick stays halted as it was, or wakes (R363). -/
theorem CpuOk.haltedTick {s : State} (h : CpuOk s) : CpuOk s.haltedTick := by
  rw [State.haltedTick_eq]
  split
  · exact ⟨h.flags, h.halted_enable, h.halted_penalty, h.wrap⟩
  · exact h.ofAwake rfl rfl h.wrap

/-- The end of an instruction that a core not halted has fetched in `u` and that leads to `v`: if it
is `HALT`, an enable pending before it has become IME, and nothing else can be pending. -/
theorem CpuOk.finishInstr {i : Instr} {u v : State} (awake : u.halted = false)
    (mark : v.cfg.pcOverflowPolicy = .wrap → v.pcOverflow = false) (run : exec i u = .next v) :
    CpuOk (v.finishInstr u.pendingIE) := by
  obtain ⟨halts, -, enables, -, -⟩ := controlStateWriters i u v run
  rw [State.finishInstr_eq]
  refine ⟨mask_lowNibble v.f, fun halted => ?_, fun _ => rfl, mark⟩
  have isHalt : i = .halt := by
    by_contra other
    exact absurd ((halts other).symm.trans halted) (by simp [awake])
  have pending : v.pendingIE = u.pendingIE :=
    enables (by rw [isHalt]; exact Instr.noConfusion) (by rw [isHalt]; exact Instr.noConfusion)
  show (v.pendingIE && !(u.pendingIE && v.pendingIE)) = false
  rw [pending]
  cases u.pendingIE <;> rfl

/-- An executed instruction keeps the invariant: with a fatal fault it has done nothing but raise
it, otherwise its end and the device update follow. -/
theorem Inv.settle {s u v : State} {i : Instr} (h : Inv s) (live : s.Live)
    (awake : s.halted = false) (fetched : FetchOk s u) (run : exec i u = .next v) :
    Inv (v.settle s.pendingIE s.cycles) := by
  obtain ⟨machine, cpu⟩ := (inv_iff s).mp h
  have machine' : MachineOk v := (machine.keeps fetched.frame.keeps).keeps (exec_keeps run)
  have awake' : u.halted = false := fetched.frame.halted.trans awake
  have cfg : v.cfg = u.cfg := (exec_keeps run).cfg
  have mark : v.cfg.pcOverflowPolicy = .wrap → v.pcOverflow = false := fun wrap => by
    rw [cfg] at wrap
    have wrap' := fetched.frame.cfg ▸ wrap
    exact exec_mark run wrap (fetched.mark wrap' (cpu.wrap wrap'))
  unfold State.settle
  split
  · next fatal =>
    obtain ⟨r, rfl⟩ := exec_faulted (fetched.run.trans live) run fatal
    exact (inv_iff _).mpr ⟨machine', cpu.ofAwake awake' fetched.frame.f mark⟩
  · rw [← fetched.frame.pendingIE]
    exact Inv.feedDevices ((inv_iff _).mpr
      ⟨machine'.finishInstr _, CpuOk.finishInstr awake' mark run⟩) _

/-- Settles O47, by the cases of the step: a dispatch, a halted tick and an instruction keep the
machine's part by what bus accesses keep, and the core's part each by its own rule. -/
theorem stepKeepsInv : Obligations.StepKeepsInv := by
  intro s t h next
  obtain ⟨live, steps⟩ := step_cases next
  obtain ⟨machine, cpu⟩ := (inv_iff s).mp h
  cases steps with
  | dispatch _ eq =>
    subst eq
    exact Inv.feedDevices ((inv_iff _).mpr
      ⟨machine.keeps (s.takeInterrupt_keeps _), cpu.takeInterrupt _⟩) _
  | tick _ _ eq =>
    subst eq
    exact Inv.feedDevices ((inv_iff _).mpr ⟨machine.haltedTick, cpu.haltedTick⟩) _
  | fatal _ awake fetch =>
    have failed := State.fetchInstr_fatal fetch
    refine (inv_iff t).mpr ⟨machine.keeps failed.frame.keeps, ?_⟩
    refine cpu.ofAwake (failed.frame.halted.trans awake) failed.frame.f fun wrap => ?_
    have wrap' := failed.frame.cfg ▸ wrap
    exact failed.mark wrap' (cpu.wrap wrap')
  | instr _ awake i u v fetch run eq =>
    subst eq
    exact h.settle live awake (State.fetchInstr_ok fetch).2 run

/-! ### Reset -/

/-- R437. -/
theorem ppuOk_reset : PpuOk Ppu.reset where
  line := by decide
  mode := by decide
  clock := by decide
  rows := List.length_replicate
  columns := fun _ h => by rw [List.eq_of_mem_replicate h, List.length_replicate]
  indices := List.length_replicate
  sprites := ⟨Nat.zero_le _, fun _ h => absurd h List.not_mem_nil⟩

/-- Settles O48: memory is empty and every counter zero. -/
theorem resetInv : Obligations.ResetInv where
  cfg := by decide
  stores := by constructor <;> decide
  echo := fun _ _ _ => rfl
  cpu := by constructor <;> decide
  mbc := by constructor <;> decide
  timer := by constructor <;> decide
  ppu := ppuOk_reset
  apu := ⟨rfl, fun _ _ _ _ => rfl, fun _ => rfl, by decide⟩

/-- Settles O58: the defaults of `RESET_*`, memory empty, and a frame of blank pixels. -/
theorem resetState : Obligations.ResetState := by
  have blank : ∀ row ∈ Ppu.reset.fb, ∀ p ∈ row, p = 0 := fun row hrow p hp => by
    rw [List.eq_of_mem_replicate hrow] at hp
    exact List.eq_of_mem_replicate hp
  refine ⟨rfl, rfl, rfl, rfl, rfl, rfl, rfl, rfl, rfl, rfl, rfl, rfl, rfl, rfl, rfl, rfl, rfl, rfl,
    fun _ => rfl, ?_⟩
  exact ⟨rfl, rfl, rfl, rfl, rfl, rfl, rfl, rfl, rfl, blank, rfl, rfl, rfl, rfl, rfl⟩

end Sys2Proof.Machine
end

section
/-!
PROOFS. The fetch of an instruction byte by byte (R23, R99, R140, R352): the state after `k` bytes,
which byte a fetch fails at, and what a step runs when it fails at none.
-/

namespace Sys2Proof.Machine

/-! ### One byte -/

section
variable {s : State}

theorem State.fetch8_of_mark (fault : s.cfg.pcOverflowPolicy = .fault)
    (mark : s.pcOverflow = true) : s.fetch8 = .fatal (s.raise .pcOutOfRange) := by
  simp [State.fetch8, fault, mark]

variable (noMark : s.cfg.pcOverflowPolicy = .wrap ∨ s.pcOverflow = false)
include noMark

theorem State.fetch8_of_missing (rom : s.pc.toNat < 0x8000) (missing : s.romInRange s.pc = false) :
    s.fetch8 = .fatal (s.raise (.fetchOutOfRange s.pc)) := by
  rcases noMark with noMark | noMark <;> simp [State.fetch8, noMark, rom, missing]

theorem State.fetch8_of_present (present : s.pc.toNat < 0x8000 → s.romInRange s.pc = true) :
    s.fetch8 = .ok (s.busRead s.pc) (s.busTouch s.pc).advancePc := by
  unfold State.fetch8
  rw [if_neg (by rcases noMark with noMark | noMark <;> simp [noMark]),
    if_neg (by simpa using present)]

end

/-! ### The state after `k` bytes -/

/-- The address of byte `k` of the instruction at PC. -/
def State.byteAddr (s : State) (k : Nat) : Word := s.pc + BitVec.ofNat 16 k

/-- The machine after the bus reads of `k` bytes from PC on, PC still at the first. -/
def State.touched (s : State) : Nat → State
  | 0 => s
  | k + 1 => (s.touched k).busTouch (s.byteAddr k)

/-- The machine after `k` bytes from PC on have been fetched. -/
def State.fetched (s : State) : Nat → State
  | 0 => s
  | k + 1 => ((s.fetched k).busTouch (s.fetched k).pc).advancePc

theorem State.byteAddr_succ (s : State) (k : Nat) : s.byteAddr (k + 1) = s.byteAddr k + 1 := by
  rw [State.byteAddr, State.byteAddr, BitVec.add_assoc, BitVec.ofNat_add]
  rfl

@[simp] theorem State.byteAddr_zero (s : State) : s.byteAddr 0 = s.pc := BitVec.add_zero s.pc

theorem State.toNat_byteAddr (s : State) (k : Nat) :
    (s.byteAddr k).toNat = (s.pc.toNat + k) % 0x10000 := by
  simp [State.byteAddr, BitVec.toNat_add]

theorem State.fetched_pc (s : State) (k : Nat) : (s.fetched k).pc = s.byteAddr k := by
  induction k with
  | zero => exact s.byteAddr_zero.symm
  | succ k ih =>
    rw [State.byteAddr_succ, ← ih]
    exact congrArg (· + 1) (State.busTouch_pc _ _)

theorem State.fetched_succ (s : State) (k : Nat) :
    s.fetched (k + 1) = ((s.fetched k).busTouch (s.byteAddr k)).advancePc := by
  rw [← State.fetched_pc]
  rfl

theorem State.touched_frame (s : State) (k : Nat) : ReadFrame s (s.touched k) := by
  induction k with
  | zero => exact ReadFrame.refl s
  | succ k ih => exact ih.trans (State.busTouch_frame _ _)

theorem State.busTouch_set_pc (s : State) (y : Word) (mark : Bool) (x : Word) :
    { s with pc := y, pcOverflow := mark }.busTouch x =
      { s.busTouch x with pc := y, pcOverflow := mark } := by
  rw [State.busTouch_core (s := s) rfl]
  exact congrArg (fun t : State => { t with pc := y, pcOverflow := mark })
    (State.withCore_self (s.busTouch_frame x).bus)

/-- The fetch of `k` bytes as their bus reads and an update of PC and its mark. -/
theorem State.fetched_eq (s : State) (k : Nat) :
    s.fetched k = { s.touched k with
      pc := s.byteAddr k, pcOverflow := (s.fetched k).pcOverflow } := by
  induction k with
  | zero => rw [State.byteAddr_zero]; rfl
  | succ k ih =>
    have read : (s.fetched k).busTouch (s.byteAddr k) = { s.touched (k + 1) with
        pc := s.byteAddr k, pcOverflow := (s.fetched k).pcOverflow } := by
      conv_lhs => rw [ih, State.busTouch_set_pc]
      rfl
    rw [State.fetched_succ, read, State.byteAddr_succ]
    rfl

theorem State.fetched_cfg (s : State) (k : Nat) : (s.fetched k).cfg = s.cfg := by
  rw [State.fetched_eq]
  exact (s.touched_frame k).cfg

theorem State.fetched_romInRange (s : State) (k : Nat) (x : Word) :
    (s.fetched k).romInRange x = s.romInRange x := by
  rw [State.fetched_eq, State.romInRange, State.romInRange]
  exact congrArg₂ (fun (m : Mbc) (r : Image) => decide (m.romOffset x < r.size))
    (s.touched_frame k).mbc (s.touched_frame k).rom

/-- The mark is set by the byte at 0xFFFF alone (R23). -/
theorem State.fetched_pcOverflow {s : State} {k : Nat}
    (room : s.cfg.pcOverflowPolicy = .wrap ∨ s.pc.toNat + k ≤ 0x10000) :
    (s.fetched k).pcOverflow =
      (s.pcOverflow || decide (s.cfg.pcOverflowPolicy = .fault ∧ s.pc.toNat + k = 0x10000)) := by
  have start := s.pc.isLt
  induction k with
  | zero =>
    rw [decide_eq_false (by omega), Bool.or_false]
    rfl
  | succ k ih =>
    have last : (s.fetched (k + 1)).pcOverflow = ((s.fetched k).pcOverflow ||
        (decide (s.cfg.pcOverflowPolicy = .fault) && decide (s.byteAddr k = 0xFFFF))) := by
      rw [State.fetched_succ]
      simp [State.advancePc, State.fetched_pc, State.fetched_cfg]
    rcases room with wrap | fits
    · rw [last, ih (.inl wrap)]
      simp [wrap]
    · have atEnd : s.byteAddr k = 0xFFFF ↔ s.pc.toNat + (k + 1) = 0x10000 := by
        rw [← BitVec.toNat_inj, State.toNat_byteAddr]
        show _ = 0xFFFF ↔ _
        omega
      rw [last, ih (.inr (by omega)), decide_eq_false (p := _ ∧ _) (by omega), Bool.or_false,
        ← Bool.decide_and, decide_eq_decide.mpr (and_congr_right' atEnd)]

/-! ### Which byte can be fetched -/

/-- Byte `k` from PC on, as the bus answers it when the bytes before it have been read. -/
def State.byteAt (s : State) (k : Nat) : Byte := (s.touched k).busRead (s.byteAddr k)

/-- No mark forbids the fetch of byte `k`, after the bytes before it (R23). -/
def State.HasRoom (s : State) (k : Nat) : Prop :=
  s.cfg.pcOverflowPolicy = .wrap ∨ s.pcOverflow = false ∧ s.pc.toNat + k ≤ 0xFFFF

/-- Byte `k` is not past the end of the image (R99). -/
def State.HasByte (s : State) (k : Nat) : Prop :=
  (s.byteAddr k).toNat < 0x8000 → s.romInRange (s.byteAddr k) = true

/-- The fetch of byte `k` succeeds. -/
def State.Fetches (s : State) (k : Nat) : Prop :=
  (s.fetched k).fetch8 = .ok (s.byteAt k) (s.fetched (k + 1))

theorem State.HasRoom.noMark {s : State} {k : Nat} (room : s.HasRoom k) :
    (s.fetched k).cfg.pcOverflowPolicy = .wrap ∨ (s.fetched k).pcOverflow = false := by
  rw [State.fetched_cfg]
  refine room.imp_right fun ⟨mark, fits⟩ => ?_
  rw [State.fetched_pcOverflow (.inr (by omega)), mark, decide_eq_false (by omega)]
  rfl

theorem State.HasRoom.fetches {s : State} {k : Nat} (room : s.HasRoom k) (byte : s.HasByte k) :
    s.Fetches k := by
  have read : s.byteAt k = (s.fetched k).busRead (s.fetched k).pc := by
    rw [State.fetched_pc, State.fetched_eq]
    rfl
  rw [State.Fetches, read]
  refine State.fetch8_of_present room.noMark fun rom => ?_
  rw [State.fetched_pc] at rom ⊢
  exact (s.fetched_romInRange k _).trans (byte rom)

/-! ### The instruction -/

theorem config_instrLength_cases (p : Config) (b : Byte) :
    p.instrLength b = 1 ∨ p.instrLength b = 2 ∨ p.instrLength b = 3 := by
  unfold Config.instrLength
  split
  · exact .inl rfl
  · unfold instrLength
    split
    · exact .inr (.inr rfl)
    · split
      · exact .inr (.inl rfl)
      · exact .inl rfl

section
variable {s : State}

/-- Every byte of the instruction can be fetched: the instruction is what they decode to. -/
theorem State.fetchInstr_of_fetches {n : Nat} (len : s.cfg.instrLength (s.byteAt 0) = n)
    (fetches : ∀ k < n, s.Fetches k) :
    s.fetchInstr = .ok (s.cfg.decode (s.byteAt 0) (if 2 ≤ n then s.byteAt 1 else 0)
      (if n = 3 then s.byteAt 2 else 0)) (s.fetched n) := by
  have byte0 : 0 < n → s.fetch8 = .ok (s.byteAt 0) (s.fetched 1) := fetches 0
  have byte1 : 1 < n → (s.fetched 1).fetch8 = .ok (s.byteAt 1) (s.fetched 2) := fetches 1
  have byte2 : 2 < n → (s.fetched 2).fetch8 = .ok (s.byteAt 2) (s.fetched 3) := fetches 2
  unfold State.fetchInstr
  rcases config_instrLength_cases s.cfg (s.byteAt 0) with one | two | three
  · obtain rfl : n = 1 := len.symm.trans one
    simp [byte0, one]
  · obtain rfl : n = 2 := len.symm.trans two
    simp [byte0, byte1, two]
  · obtain rfl : n = 3 := len.symm.trans three
    simp [byte0, byte1, byte2, three]

/-- Byte `j` of the instruction cannot be fetched: the fetch ends there. -/
theorem State.fetchInstr_of_fatal {t : State} {j : Nat}
    (inside : j < s.cfg.instrLength (s.byteAt 0)) (before : ∀ k < j, s.Fetches k)
    (fatal : (s.fetched j).fetch8 = .fatal t) : s.fetchInstr = .fatal t := by
  have byte0 : 0 < j → s.fetch8 = .ok (s.byteAt 0) (s.fetched 1) := before 0
  have byte1 : 1 < j → (s.fetched 1).fetch8 = .ok (s.byteAt 1) (s.fetched 2) := before 1
  have len := config_instrLength_cases s.cfg (s.byteAt 0)
  unfold State.fetchInstr
  obtain rfl | rfl | rfl : j = 0 ∨ j = 1 ∨ j = 2 := by omega
  · have first : s.fetch8 = .fatal t := fatal
    simp [first]
  · have more : s.cfg.instrLength (s.byteAt 0) ≠ 1 := by omega
    simp [byte0, more, fatal]
  · have three : s.cfg.instrLength (s.byteAt 0) = 3 := by omega
    simp [byte0, byte1, three, fatal]

end

/-! ### Failed fetches -/

theorem State.busTouch_quiet {s : State} {x : Word}
    (present : x.toNat < 0x8000 → s.romInRange x = true) (noInput : x.toNat ≠ 0xFF00) :
    s.busTouch x = s := by
  unfold State.busTouch
  by_cases rom : x.toNat < 0x8000
  · rw [if_pos rom, if_pos (present rom)]
  · rw [if_neg rom, if_neg noInput]

/-- Bytes in the image or outside of it move no counter. -/
theorem State.touched_quiet {s : State} {j : Nat} (bytes : ∀ k < j, s.HasByte k)
    (noInput : ∀ k < j, (s.byteAddr k).toNat ≠ 0xFF00) : s.touched j = s := by
  induction j with
  | zero => rfl
  | succ j ih =>
    have before : s.touched j = s :=
      ih (fun k hk => bytes k (by omega)) (fun k hk => noInput k (by omega))
    show (s.touched j).busTouch _ = s
    rw [before]
    exact State.busTouch_quiet (bytes j j.lt_succ_self) (noInput j j.lt_succ_self)

section
variable {s : State} (live : s.Live) (none : s.takesInterrupt = false) (awake : s.halted = false)
  {j : Nat} (inside : j < s.cfg.instrLength (s.byteAt 0))
include live none awake inside

theorem step_of_fetch_fatal {t : State} (before : ∀ k < j, s.Fetches k)
    (fatal : (s.fetched j).fetch8 = .fatal t) : step s = .next t := by
  rw [step_executes live none awake, State.executeOne,
    State.fetchInstr_of_fatal inside before fatal]

/-- The mark stops the core before byte `j` (R23). -/
theorem step_of_mark (fault : s.cfg.pcOverflowPolicy = .fault)
    (mark : j = 0 ∧ s.pcOverflow = true ∨ s.pcOverflow = false ∧ s.pc.toNat + j = 0x10000) :
    step s = .next { s with
      pc := s.byteAddr j, pcOverflow := true, run := .stopped .pcOutOfRange } := by
  have len := config_instrLength_cases s.cfg (s.byteAt 0)
  have high : ∀ k < j, 0xFFFE ≤ (s.byteAddr k).toNat := fun k hk => by
    rw [State.toNat_byteAddr]
    omega
  have bytes : ∀ k < j, s.HasByte k := fun k hk rom => by
    have := high k hk
    omega
  have before : ∀ k < j, s.Fetches k := fun k hk => by
    obtain ⟨unmarked, last⟩ := mark.resolve_left (by omega)
    exact State.HasRoom.fetches (.inr ⟨unmarked, by omega⟩) (bytes k hk)
  have marked : (s.fetched j).pcOverflow = true := by
    rw [State.fetched_pcOverflow (.inr (by have := s.pc.isLt; omega))]
    rcases mark with ⟨-, mark⟩ | ⟨-, last⟩
    · rw [mark, Bool.true_or]
    · rw [decide_eq_true ⟨fault, last⟩, Bool.or_true]
  rw [step_of_fetch_fatal live none awake inside before
      (State.fetch8_of_mark (by rw [State.fetched_cfg, fault]) marked), State.fetched_eq, marked,
    State.touched_quiet bytes (fun k hk => by have := high k hk; omega)]
  rfl

/-- A byte past the image stops the core with its address (R99). -/
theorem step_of_missing (room : s.HasRoom j) (bytes : ∀ k < j, s.HasByte k)
    (rom : (s.byteAddr j).toNat < 0x8000) (missing : s.romInRange (s.byteAddr j) = false) :
    step s = .next { s with
      pc := s.byteAddr j, run := .stopped (.fetchOutOfRange (s.byteAddr j)) } := by
  have len := config_instrLength_cases s.cfg (s.byteAt 0)
  have before : ∀ k < j, s.Fetches k := fun k hk =>
    State.HasRoom.fetches (room.imp_right fun ⟨mark, fits⟩ => ⟨mark, by omega⟩) (bytes k hk)
  have noInput : ∀ k < j, (s.byteAddr k).toNat ≠ 0xFF00 := fun k hk => by
    rw [State.toNat_byteAddr] at rom ⊢
    omega
  have unmarked : (s.fetched j).pcOverflow = s.pcOverflow := by
    rw [State.fetched_pcOverflow (room.imp_right (by omega)), decide_eq_false, Bool.or_false]
    rintro ⟨fault, last⟩
    rcases room with wrap | ⟨-, fits⟩
    · rw [wrap] at fault; cases fault
    · omega
  have fatal := State.fetch8_of_missing room.noMark (by rwa [State.fetched_pc])
    (by rwa [State.fetched_pc, State.fetched_romInRange])
  rw [step_of_fetch_fatal live none awake inside before fatal, State.fetched_pc, State.fetched_eq,
    unmarked, State.touched_quiet bytes noInput]
  rfl

end

/-- Settles O43: the fetch ends at the byte that fails, and the bytes before it moved no counter. -/
theorem fetchFaults : Obligations.FetchFaults := by
  intro s live none awake
  have first : s.byteAt 0 = s.busRead s.pc := by rw [State.byteAt, State.byteAddr_zero]; rfl
  refine ⟨fun j inside fault mark => ?_, fun j inside room bytes rom missing => ?_,
    fun mark last => ?_⟩
  · exact step_of_mark live none awake (first ▸ inside) fault mark
  · exact step_of_missing live none awake (first ▸ inside) room bytes rom missing
  · have top : s.pc.toNat = 0xFFFF := congrArg BitVec.toNat last
    have quiet : s.busTouch s.pc = s := State.busTouch_quiet (by omega) (by omega)
    rw [State.fetch8_of_present (.inr mark) (by omega), quiet]
    simp [State.advancePc, mark, last, State.busRead]

/-- Settles O39: every byte can be fetched, so the step is `exec` of the decoded instruction and
what R364 and R365 put after it. -/
theorem stepRunsDecoded : Obligations.StepRunsDecoded := by
  refine ⟨fun s n => ⟨rfl, ?_⟩, fun s live none awake => ?_⟩
  · unfold State.faulted
    cases s.run with
    | running => simp
    | stopped r => cases r <;> simp [StopReason.isFatal]
  intro s1 s2 s3 b0 b1 b2 n i u room bytes
  have touch1 : s.touched 1 = s1 := by show s.busTouch (s.byteAddr 0) = _; rw [State.byteAddr_zero]
  have byte0 : s.byteAt 0 = b0 := by show s.busRead (s.byteAddr 0) = _; rw [State.byteAddr_zero]
  have touch2 : s.touched 2 = s2 := by show (s.touched 1).busTouch _ = _; rw [touch1]; rfl
  have byte1 : s.byteAt 1 = b1 := by show (s.touched 1).busRead _ = _; rw [touch1]; rfl
  have touch3 : s.touched 3 = s3 := by show (s.touched 2).busTouch _ = _; rw [touch2]; rfl
  have byte2 : s.byteAt 2 = b2 := by show (s.touched 2).busRead _ = _; rw [touch2]; rfl
  have len : s.cfg.instrLength (s.byteAt 0) = n := by rw [byte0]
  have fetches : ∀ k < n, s.Fetches k := fun k hk =>
    State.HasRoom.fetches (room.imp_right fun ⟨mark, fits⟩ => ⟨mark, by omega⟩) (bytes k hk)
  have fetched : s.fetched n = u := by
    rw [State.fetched_eq, State.fetched_pcOverflow (room.imp_right And.right)]
    rcases config_instrLength_cases s.cfg b0 with one | two | three
    · have hn : n = 1 := one
      simp only [u, hn, touch1]
      rfl
    · have hn : n = 2 := two
      simp only [u, hn, touch2]
      rfl
    · have hn : n = 3 := three
      simp only [u, hn, touch3]
      rfl
  have fetch : s.fetchInstr = .ok i u := by
    rw [State.fetchInstr_of_fetches len fetches, fetched, byte0, byte1, byte2]
  refine ⟨fetch, ?_⟩
  rw [step_executes live none awake, State.executeOne, fetch]
  obtain ⟨t, run, -⟩ := exec_spec i u
  show settleOutcome s.pendingIE s.cycles (exec i u) = _
  rw [run]
  show Host.Outcome.next (t.settle s.pendingIE s.cycles) = _
  rw [State.settle, State.feedSince, State.finishInstr_eq]

end Sys2Proof.Machine
end

section
/-!
PROOFS. The cycles of a step and the host's actions (R366, R370, R392, R520): which operations leave
the cycle counter, what a step of a core with the default tables adds to it, and a frame step by
step.
-/

namespace Sys2Proof.Machine

/-! ### Operations that leave the cycle counter -/

section
variable (s : State)

@[simp] theorem State.setOperand_cycles (x : Operand8) (v : Byte) :
    (s.setOperand x v).cycles = s.cycles := by
  cases x
  case indHl => exact s.busWrite_cycles _ v
  all_goals rfl

@[simp] theorem State.touchOperand_cycles (x : Operand8) : (s.touchOperand x).cycles = s.cycles :=
  (s.touchOperand_frame x).cycles

@[simp] theorem State.setReg16_cycles (r : Reg16) (v : Word) :
    (s.setReg16 r v).cycles = s.cycles := by
  cases r <;> rfl

@[simp] theorem State.setReg16Stk_cycles (r : Reg16Stk) (v : Word) :
    (s.setReg16Stk r v).cycles = s.cycles := by
  cases r <;> rfl

@[simp] theorem State.load_cycles (dst src : Operand8) : (s.load dst src).cycles = s.cycles := by
  simp [State.load]

@[simp] theorem State.loadA_cycles (x : Word) : (s.loadA x).cycles = s.cycles := s.busTouch_cycles x

@[simp] theorem State.alu_cycles (op : AluOp) (x : Operand8) : (s.alu op x).cycles = s.cycles :=
  s.touchOperand_cycles x

@[simp] theorem State.modify_cycles (x : Operand8) (r : Flagged 8) :
    (s.modify x r).cycles = s.cycles := by
  simp [State.modify]

@[simp] theorem State.bitTest_cycles (b : Nat) (x : Operand8) : (s.bitTest b x).cycles = s.cycles :=
  s.touchOperand_cycles x

@[simp] theorem State.resetBit_cycles (b : Nat) (x : Operand8) :
    (s.resetBit b x).cycles = s.cycles := by
  simp [State.resetBit]

@[simp] theorem State.assertBit_cycles (b : Nat) (x : Operand8) :
    (s.assertBit b x).cycles = s.cycles := by
  simp [State.assertBit]

@[simp] theorem State.push16_cycles (v : Word) : (s.push16 v).cycles = s.cycles := by
  simp [State.push16, State.pushByte]

@[simp] theorem State.popped_cycles : s.popped.cycles = s.cycles := by
  simp [State.popped, State.popByte]

@[simp] theorem State.ret_cycles : s.ret.cycles = s.cycles := s.popped_cycles

@[simp] theorem State.call_cycles (x : Word) : (s.call x).cycles = s.cycles := s.push16_cycles s.pc

@[simp] theorem State.busWrite16_cycles (x v : Word) : (s.busWrite16 x v).cycles = s.cycles := by
  simp [State.busWrite16]

/-- A row of the second table adds its entry of `CB_CYCLES` (R260, R551). -/
theorem State.cbExecute_cycles (row : Byte) :
    (s.cbExecute row).cycles = s.cycles + s.costCb row := by
  unfold State.cbExecute
  dsimp only
  split <;> simp [State.rot]

theorem State.takeInterrupt_cycles (i : Nat) : (s.takeInterrupt i).cycles = s.cycles + 20 := by
  simp [State.takeInterrupt]

end

/-! ### The default tables -/

theorem memCycles_pos {x : Operand8} {reg mem : Nat} (hreg : 0 < reg) (hmem : 0 < mem) :
    0 < memCycles x reg mem := by
  unfold memCycles
  split <;> assumption

theorem cbCycles_pos (isBit : Bool) (x : Operand8) : 0 < cbCycles isBit x := by
  unfold cbCycles
  cases isBit <;> split <;> decide

theorem defaultCbCycles_pos : ∀ row : Byte, 0 < defaultCbCycles.getD row.toNat 0 := by decide

section
variable {s : State} (tables : s.cfg.DefaultCycles)
include tables

theorem State.time_pos (i : Instr) {n : Nat} (pos : 0 < n) : 0 < s.time i n := by
  rwa [State.time, if_pos tables]

theorem State.timeTaken_pos (i : Instr) {n : Nat} (pos : 0 < n) : 0 < s.timeTaken i n := by
  rwa [State.timeTaken, if_pos tables]

theorem State.cost_pos {row : Byte} (pos : 0 < defaultCycles.getD row.toNat 0) :
    0 < s.cost row := by
  obtain ⟨cycles, -, -⟩ := tables
  rwa [State.cost, cycles]

theorem State.costCb_pos (row : Byte) : 0 < s.costCb row := by
  obtain ⟨-, -, cycles⟩ := tables
  rw [State.costCb, cycles]
  exact defaultCbCycles_pos row

/-- With the default tables every instruction adds cycles or stops the core: `STOP` and the illegal
opcodes may add none (R333, R337, R551). -/
theorem exec_advances {i : Instr} {t : State} (run : exec i s = .next t) :
    s.cycles < t.cycles ∨ ¬ t.Live := by
  have done : ∀ {u : State} {n : Nat}, exec i s = .next (u.addCycles n) → u.cycles = s.cycles →
      0 < n → s.cycles < t.cycles ∨ ¬ t.Live := fun {u n} answer same pos => by
    rw [run] at answer
    rw [Host.Outcome.next.inj answer, State.addCycles_cycles, same]
    exact .inl (Nat.lt_add_of_pos_right pos)
  have two : ∀ {c : Prop} [Decidable c] {u : State} {n m : Nat},
      exec i s = (if c then .next (u.addCycles n) else .next (s.addCycles m)) →
      u.cycles = s.cycles → 0 < n → 0 < m → s.cycles < t.cycles ∨ ¬ t.Live :=
    fun {c} _ {u n m} answer same hn hm => by
      by_cases hc : c
      · exact done (answer.trans (if_pos hc)) same hn
      · exact done (answer.trans (if_neg hc)) rfl hm
  have time : ∀ {n : Nat}, 0 < n → 0 < s.time i n := fun pos => State.time_pos tables i pos
  have inMem : ∀ {x : Operand8} {reg mem : Nat}, 0 < reg → 0 < mem →
      0 < s.time i (memCycles x reg mem) := fun hreg hmem => time (memCycles_pos hreg hmem)
  have taken : ∀ {n : Nat}, 0 < n → 0 < s.timeTaken i n :=
    fun pos => State.timeTaken_pos tables i pos
  have cost : ∀ {row : Byte}, 0 < defaultCycles.getD row.toNat 0 → 0 < s.cost row :=
    fun pos => State.cost_pos tables pos
  induction i using Instr.byGroup with
  | ld dst src =>
    by_cases isHalt : dst = .indHl ∧ src = .indHl
    · obtain ⟨rfl, rfl⟩ := isHalt
      exact done (u := { s with halted := true }) rfl rfl (cost (row := 0x76) (by decide))
    · exact done (exec_ld dst src isHalt s) (s.load_cycles dst src) (time (by split <;> decide))
  | alu op x => exact done (exec_alu op x s) (s.alu_cycles op x) (inMem (by decide) (by decide))
  | aluImm op d8 => exact done (exec_aluImm op d8 s) rfl (time (by decide))
  | inc x => exact done (exec_inc x s) (s.modify_cycles x _) (inMem (by decide) (by decide))
  | dec x => exact done (exec_dec x s) (s.modify_cycles x _) (inMem (by decide) (by decide))
  | ldImm x d8 =>
    exact done (exec_ldImm x d8 s) (s.setOperand_cycles x d8) (inMem (by decide) (by decide))
  | ldImm16 r d16 => exact done (exec_ldImm16 r d16 s) (s.setReg16_cycles r d16) (time (by decide))
  | addHl r => exact done (exec_addHl r s) rfl (time (by decide))
  | inc16 r => exact done (exec_inc16 r s) (s.setReg16_cycles r _) (time (by decide))
  | dec16 r => exact done (exec_dec16 r s) (s.setReg16_cycles r _) (time (by decide))
  | push r => exact done (exec_push r s) (s.push16_cycles _) (time (by decide))
  | pop r => exact done (exec_pop r s) (by simp) (time (by decide))
  | jrCc cc e8 => exact two (exec_jrCc cc e8 s) rfl (taken (by decide)) (time (by decide))
  | jpCc cc a16 => exact two (exec_jpCc cc a16 s) rfl (taken (by decide)) (time (by decide))
  | callCc cc a16 =>
    exact two (exec_callCc cc a16 s) (s.call_cycles a16) (taken (by decide)) (time (by decide))
  | retCc cc => exact two (exec_retCc cc s) s.ret_cycles (taken (by decide)) (time (by decide))
  | rst y hy => exact done (exec_rst hy s) (s.call_cycles _) (time (by decide))
  | rot op x => exact done (exec_rot op x s) (s.modify_cycles x _) (time (cbCycles_pos false x))
  | bit b hb x => exact done (exec_bit hb x s) (s.bitTest_cycles b x) (time (cbCycles_pos true x))
  | res b hb x => exact done (exec_res hb x s) (s.resetBit_cycles b x) (time (cbCycles_pos false x))
  | set b hb x =>
    exact done (exec_set hb x s) (s.assertBit_cycles b x) (time (cbCycles_pos false x))
  | ldIndA16Sp a16 => exact done rfl (s.busWrite16_cycles a16 s.sp) (cost (by decide))
  | ldIndBcA => exact done rfl (s.busWrite_cycles _ _) (cost (by decide))
  | ldIndDeA => exact done rfl (s.busWrite_cycles _ _) (cost (by decide))
  | ldIndHlIncA => exact done rfl (s.busWrite_cycles _ _) (cost (by decide))
  | ldIndHlDecA => exact done rfl (s.busWrite_cycles _ _) (cost (by decide))
  | ldAIndBc => exact done rfl (s.loadA_cycles _) (cost (by decide))
  | ldAIndDe => exact done rfl (s.loadA_cycles _) (cost (by decide))
  | ldAIndHlInc => exact done rfl (s.loadA_cycles _) (cost (by decide))
  | ldAIndHlDec => exact done rfl (s.loadA_cycles _) (cost (by decide))
  | ldhIndA8A a8 => exact done rfl (s.busWrite_cycles _ _) (cost (by decide))
  | ldhAIndA8 a8 => exact done rfl (s.loadA_cycles _) (cost (by decide))
  | ldIndCA => exact done rfl (s.busWrite_cycles _ _) (cost (by decide))
  | ldAIndC => exact done rfl (s.loadA_cycles _) (cost (by decide))
  | ldIndA16A a16 => exact done rfl (s.busWrite_cycles _ _) (cost (by decide))
  | ldAIndA16 a16 => exact done rfl (s.loadA_cycles _) (cost (by decide))
  | callA16 a16 => exact done rfl (s.call_cycles a16) (cost (by decide))
  | ret => exact done rfl s.ret_cycles (cost (by decide))
  | reti => exact done rfl s.ret_cycles (cost (by decide))
  | prefixCb cb =>
    cases run
    rw [State.cbExecute_cycles]
    exact .inl (Nat.lt_add_of_pos_right (State.costCb_pos tables _))
  | stop pad =>
    obtain rfl | rfl | rfl := execStop_cases run
    · exact .inr (fun live => by cases live)
    · exact .inl (Nat.lt_add_of_pos_right (cost (by decide)))
    · exact .inr (fun live => by cases live)
  | illegal op =>
    cases run
    exact .inr (fun live => by cases live)
  | _ => exact done rfl rfl (cost (by decide))

end

/-! ### The step -/

/-- A live core always has a next state (R354). -/
theorem step_exists {s : State} (live : s.Live) : ∃ t, step s = .next t := by
  unfold step iteration
  rw [live]
  dsimp only
  split
  · exact ⟨_, rfl⟩
  split
  · exact ⟨_, rfl⟩
  unfold State.executeOne
  split
  · exact ⟨_, rfl⟩
  · next i u _ =>
    obtain ⟨v, run, -⟩ := exec_spec i u
    rw [run]
    exact ⟨_, rfl⟩

theorem State.settle_cfg (s : State) (promote : Bool) (c0 : Nat) :
    (s.settle promote c0).cfg = s.cfg := by
  unfold State.settle
  split
  · rfl
  · rw [State.feedSince, State.feedDevices_cfg, State.finishInstr_eq]

/-- No step changes the parameters (R8). -/
theorem step_cfg {s t : State} (next : step s = .next t) : t.cfg = s.cfg := by
  obtain ⟨-, steps⟩ := step_cases next
  cases steps with
  | dispatch _ eq =>
    rw [eq, State.feedSince, State.feedDevices_cfg]
    exact (s.takeInterrupt_keeps _).cfg
  | tick _ _ eq =>
    rw [eq, State.feedSince, State.feedDevices_cfg, State.haltedTick_eq]
    split <;> rfl
  | fatal _ _ fetch => exact (State.fetchInstr_fatal fetch).frame.cfg
  | instr _ _ i u v fetch run eq =>
    rw [eq, State.settle_cfg, (exec_keeps run).cfg]
    exact (State.fetchInstr_ok fetch).2.frame.cfg

/-- The end of an iteration takes no cycles back and restarts no stopped core. -/
theorem State.settle_advances (s : State) (promote : Bool) (c0 : Nat) :
    s.cycles ≤ (s.settle promote c0).cycles ∧ (s.settle promote c0).run = s.run := by
  unfold State.settle
  split
  · exact ⟨le_rfl, rfl⟩
  · rw [State.feedSince, State.feedDevices_cycles, State.feedDevices_run, State.finishInstr_eq]
    exact ⟨Nat.le_add_right _ _, rfl⟩

/-- With the default tables every step adds cycles or stops the core. -/
theorem step_advances {s t : State} (tables : s.cfg.DefaultCycles) (next : step s = .next t) :
    s.cycles < t.cycles ∨ ¬ t.Live := by
  obtain ⟨-, steps⟩ := step_cases next
  cases steps with
  | dispatch _ eq =>
    rw [eq, State.feedSince, State.feedDevices_cycles, State.dispatch, State.takeInterrupt_cycles]
    exact .inl (Nat.lt_add_of_pos_right (by decide))
  | tick _ _ eq =>
    rw [eq, State.feedSince, State.feedDevices_cycles, State.haltedTick_eq]
    split <;> exact .inl (Nat.lt_add_of_pos_right (k := 4) (by decide))
  | fatal _ _ fetch =>
    obtain ⟨r, -, stopped⟩ := (State.fetchInstr_fatal fetch).run
    exact .inr (fun live => by rw [State.Live, stopped] at live; cases live)
  | instr _ _ i u v fetch run eq =>
    have frame := (State.fetchInstr_ok fetch).2.frame
    obtain ⟨cycles, stays⟩ := v.settle_advances s.pendingIE s.cycles
    rw [eq, State.Live, stays, ← frame.cycles]
    exact (exec_advances (frame.cfg.symm ▸ tables) run).imp_left
      fun more => more.trans_le (frame.cycles ▸ cycles)

/-! ### A frame -/

/-- What ends a frame (R366). -/
def FrameEnded (u : State) : Prop := u.vblank = true ∨ 70224 ≤ u.cycles ∨ ¬ u.Live

/-- The loop of a frame with the bound `n` makes `k` steps from `s` and ends in `t`. -/
structure FrameRun (n : Nat) (s t : State) (k : Nat) : Prop where
  loop : runFrameLoop n s = .next t
  after : Host.Core.run Sys2Proof.core k s = .next t
  going : ∀ j, 0 < j → j < k → ∃ u, Host.Core.run Sys2Proof.core j s = .next u ∧ ¬ FrameEnded u
  stop : (0 < k ∧ FrameEnded t) ∨ k = n
  advances : s.cfg.DefaultCycles → FrameEnded t ∨ s.cycles + k ≤ t.cycles

theorem frameEnded_iff (u : State) :
    FrameEnded u ↔ u.run ≠ .running ∨ u.vblank = true ∨ 70224 ≤ u.cycles :=
  ⟨fun h => h.elim (.inr ∘ .inl) (fun h => h.elim (.inr ∘ .inr) .inl),
    fun h => h.elim (.inr ∘ .inr) (fun h => h.elim .inl (.inr ∘ .inl))⟩

/-- The loop of a live core, by its bound: the first step ends the frame, or the rest of the loop
does. -/
theorem frameRun_exists (n : Nat) {s : State} (live : s.Live) : ∃ t k, FrameRun n s t k := by
  induction n generalizing s with
  | zero =>
    exact ⟨s, 0, rfl, rfl, fun j _ hj => absurd hj j.not_lt_zero, .inr rfl, fun _ => .inr le_rfl⟩
  | succ n ih =>
    obtain ⟨t, next⟩ := step_exists live
    have one : Host.Core.run Sys2Proof.core 1 s = .next t := run_succ next 0
    by_cases ended : FrameEnded t
    · exact ⟨t, 1, runFrameLoop_ends next ((frameEnded_iff t).mp ended) n, one,
        fun j _ _ => by omega, .inl ⟨Nat.one_pos, ended⟩, fun _ => .inl ended⟩
    · have going := mt (frameEnded_iff t).mpr ended
      have live' : t.Live := by
        by_contra stopped
        exact ended (.inr (.inr stopped))
      obtain ⟨u, k, rest⟩ := ih live'
      refine ⟨u, k + 1, (runFrameLoop_goes_on next going n).trans rest.loop,
        (run_succ next k).trans rest.after, fun j pos hj => ?_, ?_, fun tables => ?_⟩
      · obtain _ | _ | j := j
        · omega
        · exact ⟨t, one, ended⟩
        · obtain ⟨v, after, on⟩ := rest.going (j + 1) j.succ_pos (by omega)
          exact ⟨v, (run_succ next (j + 1)).trans after, on⟩
      · exact rest.stop.imp (fun h => ⟨k.succ_pos, h.2⟩) (congrArg (· + 1))
      · have more := (step_advances tables next).resolve_right (not_not_intro live')
        refine (rest.advances (step_cfg next ▸ tables)).imp_right fun h => ?_
        omega

/-- Settles O60. The frame is `frameRun_exists` at the bound of 70,224 steps: with the default
tables that many steps add that many cycles. -/
theorem hostActions : Obligations.HostActions := by
  refine ⟨fun s => rfl, fun s u => ⟨rfl, rfl⟩, fun s k _ => ⟨rfl, fun n => ?_, rfl⟩,
    fun s live => ?_⟩
  · rw [State.peek_requestInterrupt]
    split
    · next h => rw [h]
    · rfl
  · obtain ⟨t, k, frame⟩ := frameRun_exists 70224 (s := { s with cycles := 0 }) live
    have pos : 0 < k := by
      rcases frame.stop with ⟨pos, -⟩ | bound
      · exact pos
      · omega
    have stop := frame.stop.imp_left And.right
    refine ⟨t, k, frame.loop, pos, frame.after, frame.going, stop, fun tables => ?_⟩
    rcases stop, frame.advances tables with ⟨ended | bound, ended' | cycles⟩
    · exact ended
    · exact ended
    · exact ended'
    · exact .inr (.inl (by simpa [bound] using cycles))

end Sys2Proof.Machine
end

section
/-!
PROOFS. The bus region by region (R70, R71): which rule each address has, what a write leaves of the
byte array, storage and its echo, and the frame of an access.
-/

namespace Sys2Proof.Machine

/-! ### The rule of each address -/

section
variable {s : State} {a : Word} {v : Byte}

theorem State.busRead_atRom (h : a.toNat < 0x8000) : s.busRead a = s.readRom a := if_pos h

theorem State.busWrite_atRom (h : a.toNat < 0x8000) : s.busWrite a v = s.manageWrite a v := if_pos h

theorem State.busRead_atExtRam (lo : 0xA000 ≤ a.toNat) (hi : a.toNat ≤ 0xBFFF) :
    s.busRead a = s.readRam a := by
  rw [State.busRead, if_neg (by omega), if_pos ⟨lo, hi⟩]

theorem State.busWrite_atExtRam (lo : 0xA000 ≤ a.toNat) (hi : a.toNat ≤ 0xBFFF) :
    s.busWrite a v = s.ramWrite a v := by
  rw [State.busWrite, if_neg (by omega), if_pos ⟨lo, hi⟩, State.manageWrite, if_neg (by omega),
    if_neg (by omega), if_neg (by omega), if_neg (by omega)]

theorem State.busRead_atJoypad (h : a.toNat = 0xFF00) :
    s.busRead a = joypadValue (s.peek 0xFF00) (Config.inputMask s.inputReads) := by
  rw [State.busRead, if_neg (by omega), if_neg (by omega), if_pos h]

theorem State.busRead_atNr52 (h : a.toNat = 0xFF26) :
    s.busRead a = s.peek 0xFF26 ||| 0x70 ||| s.apu.status := by
  rw [State.busRead, if_neg (by omega), if_neg (by omega), if_neg (by omega), if_pos h]

theorem State.busRead_atApu (lo : 0xFF10 ≤ a.toNat) (hi : a.toNat ≤ 0xFF3F) (h : a.toNat ≠ 0xFF26) :
    s.busRead a = s.peek a.toNat ||| apuReadMask (a.toNat - 0xFF10) := by
  rw [State.busRead, if_neg (by omega), if_neg (by omega), if_neg (by omega), if_neg h,
    if_pos ⟨lo, hi⟩]

/-- Where neither the cartridge nor the joypad nor the APU answers, a read gives the array's byte. -/
theorem State.busRead_eq_peek (h : 0x8000 ≤ a.toNat ∧ a.toNat ≤ 0x9FFF ∨
    0xC000 ≤ a.toNat ∧ a.toNat ≠ 0xFF00 ∧ (a.toNat < 0xFF10 ∨ 0xFF3F < a.toNat)) :
    s.busRead a = s.peek a.toNat := by
  rw [State.busRead, if_neg (by omega), if_neg (by omega), if_neg (by omega), if_neg (by omega),
    if_neg (by omega)]

theorem State.busWrite_atWorkRam (lo : 0xC000 ≤ a.toNat) (hi : a.toNat ≤ 0xDDFF) :
    s.busWrite a v = (s.poke a.toNat v).poke (a.toNat + 0x2000) v := by
  rw [State.busWrite, if_neg (by omega), if_neg (by omega), if_pos ⟨lo, hi⟩]

theorem State.busWrite_atEcho (lo : 0xE000 ≤ a.toNat) (hi : a.toNat ≤ 0xFDFF) :
    s.busWrite a v = (s.poke a.toNat v).poke (a.toNat - 0x2000) v := by
  rw [State.busWrite, if_neg (by omega), if_neg (by omega), if_neg (by omega), if_pos ⟨lo, hi⟩]

theorem State.busWrite_atDiv (s : State) (v : Byte) :
    s.busWrite 0xFF04 v = { s.poke 0xFF04 0 with timer := { s.timer with divSub := 0 } } := rfl

theorem State.busWrite_atApu (lo : 0xFF10 ≤ a.toNat) (hi : a.toNat ≤ 0xFF3F) :
    s.busWrite a v = (s.poke a.toNat v).apuWrite a.toNat v := by
  rw [State.busWrite, if_neg (by omega), if_neg (by omega), if_neg (by omega), if_neg (by omega),
    if_neg (by omega), if_pos ⟨lo, hi⟩]

theorem State.busWrite_atDma (s : State) (v : Byte) :
    s.busWrite 0xFF46 v = (s.poke 0xFF46 v).dma v := rfl

/-- Where no rule of R71 applies, a write stores the byte. -/
theorem State.busWrite_eq_poke (h : 0x8000 ≤ a.toNat ∧ a.toNat ≤ 0x9FFF ∨
    0xDE00 ≤ a.toNat ∧ a.toNat ≤ 0xDFFF ∨ 0xFE00 ≤ a.toNat ∧ a.toNat ≠ 0xFF04 ∧
      a.toNat ≠ 0xFF46 ∧ (a.toNat < 0xFF10 ∨ 0xFF3F < a.toNat)) :
    s.busWrite a v = s.poke a.toNat v := by
  rw [State.busWrite, if_neg (by omega), if_neg (by omega), if_neg (by omega), if_neg (by omega),
    if_neg (by omega), if_neg (by omega), if_neg (by omega)]

end

theorem PlainAddress.busRead {a : Word} (h : PlainAddress a) (s : State) :
    s.busRead a = s.peek a.toNat :=
  State.busRead_eq_peek (by unfold PlainAddress at h; omega)

theorem PlainAddress.busWrite {a : Word} (h : PlainAddress a) (s : State) (v : Byte) :
    s.busWrite a v = s.poke a.toNat v :=
  State.busWrite_eq_poke (by unfold PlainAddress at h; omega)

/-- Settles O6: at a plain address the bus write is the raw store, and at DIV the raw store of 0. -/
theorem plainStorage : Obligations.PlainStorage := by
  intro s a v
  rw [State.busWrite_atDiv]
  refine ⟨fun plain => ?_, s.peek_poke 0xFF04 0, rfl, rfl⟩
  rw [plain.busWrite]
  exact ⟨s.peek_poke _ v, rfl, plain.busRead s⟩

/-! ### Work RAM and its echo -/

theorem RamAddress.busRead {a : Word} (h : RamAddress a) (s : State) :
    s.busRead a = s.peek a.toNat := by
  obtain plain | ⟨lo, hi⟩ := h
  · exact plain.busRead s
  · exact State.busRead_eq_peek (by omega)

/-- The byte stored at a RAM address is the array's byte there. -/
theorem RamAddress.peek_busWrite {a : Word} (h : RamAddress a) (s : State) (v : Byte) :
    (s.busWrite a v).peek a.toNat = v := by
  obtain plain | ⟨lo, hi⟩ := h
  · rw [plain.busWrite, State.peek_poke_self]
  obtain work | unmirrored | echo : a.toNat ≤ 0xDDFF ∨ (0xDE00 ≤ a.toNat ∧ a.toNat ≤ 0xDFFF) ∨
      0xE000 ≤ a.toNat := by omega
  · rw [State.busWrite_atWorkRam lo work, State.peek_poke_of_ne _ _ (by omega), State.peek_poke_self]
  · rw [State.busWrite_eq_poke (.inr (.inl unmirrored)), State.peek_poke_self]
  · rw [State.busWrite_atEcho echo hi, State.peek_poke_of_ne _ _ (by omega), State.peek_poke_self]

/-- A write on one side of the mirrored window stores the byte on the other side too (R76). -/
theorem State.peek_busWrite_mirror (s : State) {a : Word} (v : Byte) (lo : 0xC000 ≤ a.toNat)
    (hi : a.toNat ≤ 0xDDFF) :
    (s.busWrite a v).peek (a.toNat + 0x2000) = v ∧ (s.busWrite (a + 0x2000) v).peek a.toNat = v := by
  have mirror : (a + 0x2000).toNat = a.toNat + 0x2000 := by bv_omega
  rw [State.busWrite_atWorkRam lo hi, State.busWrite_atEcho (by omega) (by omega), mirror,
    Nat.add_sub_cancel]
  exact ⟨State.peek_poke_self _ _ _, State.peek_poke_self _ _ _⟩

/-- Settles O7: both sides of the window are RAM addresses, and every write keeps the echo. -/
theorem echoSynchronised : Obligations.EchoSynchronised := by
  refine ⟨fun s a v lo hi => ?_, fun s a v => (s.busWrite_keeps a v).echo⟩
  have mirror : (a + 0x2000).toNat = a.toNat + 0x2000 := by bv_omega
  have below : RamAddress a := .inr (by omega)
  have above : RamAddress (a + 0x2000) := .inr (by omega)
  obtain ⟨up, down⟩ := s.peek_busWrite_mirror v lo hi
  rw [below.busRead, below.busRead, above.busRead, above.busRead]
  exact ⟨below.peek_busWrite s v, mirror ▸ up, down, above.peek_busWrite s v⟩

/-! ### The bytes a write leaves -/

/-- From `s` to `t` only the controller's registers and the signals may have changed. -/
def ControllerOnly (s t : State) : Prop := t = { s with mbc := t.mbc, signals := t.signals }

theorem State.writeRomBank_only (s : State) (v : Byte) : ControllerOnly s (s.writeRomBank v) := by
  unfold State.writeRomBank
  split <;> rfl

theorem State.writeRamBank_only (s : State) (v : Byte) : ControllerOnly s (s.writeRamBank v) := by
  unfold State.writeRamBank
  split <;> rfl

theorem State.writeModeOrLatch_only (s : State) (v : Byte) :
    ControllerOnly s (s.writeModeOrLatch v) := by
  unfold State.writeModeOrLatch
  split <;> rfl

/-- A write to the ROM changes the controller's registers and the signals alone (R72). -/
theorem State.busWrite_rom_only (s : State) {a : Word} (v : Byte) (h : a.toNat < 0x8000) :
    ControllerOnly s (s.busWrite a v) := by
  rw [State.busWrite_atRom h, State.manageWrite]
  split
  · rfl
  split
  · exact s.writeRomBank_only v
  split
  · exact s.writeRamBank_only v
  split
  · exact s.writeModeOrLatch_only v
  · omega

theorem State.ramWrite_mem (s : State) (a : Word) (v : Byte) : (s.ramWrite a v).mem = s.mem := by
  unfold State.ramWrite
  split <;> rfl

/-- A store to NR52 leaves the bytes outside the APU's registers (R471). -/
theorem State.peek_writeNr52 (s : State) (v : Byte) {n : Nat} (h : n < 0xFF10 ∨ 0xFF26 < n) :
    (s.writeNr52 v).peek n = s.peek n := by
  have power : Memory.read (s.apu.powerSwitch s.mem (v.getLsbD 7)).1 n = s.peek n := by
    obtain ⟨-, -, eq⟩ | ⟨-, -, eq⟩ | ⟨-, eq⟩ := s.apu.powerSwitch_cases s.mem (v.getLsbD 7) <;>
      rw [eq]
    · rw [read_clearApuRegisters, if_neg (by omega), State.peek]
    · rfl
    · rfl
  rw [State.writeNr52, State.peek_poke_of_ne _ _ (by omega)]
  exact power

/-- The APU's own store touches no byte but the one written, or for NR52 its registers (R471). -/
theorem State.peek_apuWrite (s : State) {a n : Nat} (v : Byte) (other : n ≠ a)
    (nr52 : a = 0xFF26 → n < 0xFF10 ∨ 0xFF26 < n) : (s.apuWrite a v).peek n = s.peek n := by
  unfold State.apuWrite
  split
  · next h => exact s.peek_writeNr52 v (nr52 h)
  split
  · rfl
  split
  · exact s.peek_poke_of_ne 0 other
  · rfl

/-- One byte of the copy (R81). -/
theorem State.peek_dmaByte (v : Byte) (s : State) (i n : Nat) :
    (s.dmaByte v i).peek n =
      if n = 0xFE00 + i then s.busRead (mkWord v 0 + BitVec.ofNat 16 i) else s.peek n := by
  rw [State.dmaByte, State.peek_poke, State.busTouch_peek]

/-- The state after the first `c` bytes of the copy (R81). -/
def State.dmaCopied (s : State) (v : Byte) (c : Nat) : State :=
  (List.range c).foldl (State.dmaByte v) s

theorem State.dma_eq (s : State) (v : Byte) : s.dma v = s.dmaCopied v 0xA0 := rfl

theorem State.dmaCopied_succ (s : State) (v : Byte) (c : Nat) :
    s.dmaCopied v (c + 1) = (s.dmaCopied v c).dmaByte v c := by
  rw [State.dmaCopied, List.range_succ, List.foldl_append, List.foldl_cons, List.foldl_nil,
    State.dmaCopied]

/-- The copy leaves the bytes outside OAM (R81). -/
theorem State.peek_dmaCopied (s : State) (v : Byte) {c n : Nat} (hc : c ≤ 0xA0)
    (hn : n < 0xFE00 ∨ 0xFE9F < n) : (s.dmaCopied v c).peek n = s.peek n := by
  induction c with
  | zero => rfl
  | succ c ih => rw [State.dmaCopied_succ, State.peek_dmaByte, if_neg (by omega), ih (by omega)]

/-- A write leaves every byte of the array outside `storedBytes` (R66, R71). -/
theorem State.peek_busWrite (s : State) (a : Word) (v : Byte) {n : Nat} (h : ¬ storedBytes a n) :
    (s.busWrite a v).peek n = s.peek n := by
  unfold storedBytes at h
  split at h
  · next rom => rw [State.peek, s.busWrite_rom_only v rom, State.peek]
  split at h
  · next ext => rw [State.peek, State.busWrite_atExtRam ext.1 ext.2, State.ramWrite_mem, State.peek]
  split at h
  · next work =>
    rw [State.busWrite_atWorkRam work.1 work.2, State.peek_poke_of_ne _ _ (by omega),
      State.peek_poke_of_ne _ _ (by omega)]
  split at h
  · next echo =>
    rw [State.busWrite_atEcho echo.1 echo.2, State.peek_poke_of_ne _ _ (by omega),
      State.peek_poke_of_ne _ _ (by omega)]
  split at h
  · next nr52 =>
    rw [State.busWrite_atApu (by omega) (by omega), State.peek_apuWrite _ _ (by omega) (by omega),
      State.peek_poke_of_ne _ _ (by omega)]
  split at h
  · next dma =>
    obtain rfl : a = 0xFF46 := BitVec.eq_of_toNat_eq dma
    rw [State.busWrite_atDma, State.dma_eq, State.peek_dmaCopied _ _ le_rfl (by omega),
      State.peek_poke_of_ne _ _ (by omega)]
  by_cases div : a.toNat = 0xFF04
  · obtain rfl : a = 0xFF04 := BitVec.eq_of_toNat_eq div
    exact s.peek_poke_of_ne 0 h
  by_cases apu : 0xFF10 ≤ a.toNat ∧ a.toNat ≤ 0xFF3F
  · rw [State.busWrite_atApu apu.1 apu.2, State.peek_apuWrite _ _ h (by omega),
      State.peek_poke_of_ne _ _ h]
  · rw [State.busWrite_eq_poke (by omega), State.peek_poke_of_ne _ _ h]

/-! ### The frame of an access -/

/-- A bus access as one update of what it can change (R66, R71). -/
theorem BusFrame.eq {s t : State} (h : BusFrame s t) : t = { s with
    mem := t.mem
    mbc := { t.mbc with kind := s.mbc.kind }
    extRam := { s.extRam with data := t.extRam.data }
    timer := { s.timer with divSub := t.timer.divSub }
    apu := t.apu, signals := t.signals, inputReads := t.inputReads, romDraws := t.romDraws } := by
  refine (State.withCore_self h).symm.trans ?_
  apply State.ext
  case mbc => exact congrArg (fun kind => { t.mbc with kind := kind }) h.mbcKind
  case extRam => exact congrArg (fun size => { t.extRam with size := size }) h.ramSize
  case timer => exact congrArg (fun tima => { t.timer with timaSub := tima }) h.timaSub
  case rom => exact h.rom
  case ppu => exact h.ppu
  case vblank => exact h.vblank
  case cfg => exact h.cfg
  all_goals rfl

/-- Settles O8: the bytes by the regions of the bus, the rest by what an access can change. -/
theorem busFrames : Obligations.BusFrames := by
  refine ⟨fun s a v n => s.peek_busWrite a v, fun s a v => ?_,
    fun s a => ⟨_, _, (s.busTouch_frame a).eq⟩⟩
  have reach := s.busWrite_reach a v
  exact ⟨(s.busWrite_frame a v).eq, reach.controller, reach.extRam, reach.timer, reach.apu,
    reach.counters⟩

end Sys2Proof.Machine
end

section
/-!
PROOFS. The cartridge on the bus: the ROM image (R72, R99), the controller's windows and bank mappings
(R91 to R95), and the external RAM (R97).
-/

namespace Sys2Proof.Machine

/-! ### The ROM image -/

theorem State.romInRange_iff (s : State) (a : Word) :
    s.romInRange a = true ↔ s.mbc.romOffset a < s.rom.size := decide_eq_true_iff

/-- Two states with the same image, the same draws and the same bank mapped read the same ROM. -/
theorem State.readRom_congr {s t : State} (rom : t.rom = s.rom) (draws : t.romDraws = s.romDraws)
    (bank : t.mbc.romBank = s.mbc.romBank) (a : Word) : t.readRom a = s.readRom a := by
  have offset : t.mbc.romOffset a = s.mbc.romOffset a := by
    rw [Mbc.romOffset, Mbc.romOffset, bank]
  rw [State.readRom, State.readRom, State.romInRange, State.romInRange, offset, rom, draws]

/-- Settles O9: a write to the ROM is the controller's alone, which a ROM read sees by its bank. -/
theorem romIsNotWritten : Obligations.RomIsNotWritten := by
  intro s a v rom
  have only := s.busWrite_rom_only v rom
  obtain ⟨-, draws⟩ := (s.busWrite_reach a v).counters (by omega)
  refine ⟨only, fun bank b hb => ?_⟩
  rw [State.busRead_atRom hb, State.busRead_atRom hb]
  exact State.readRom_congr (s.busWrite_rom a v) draws bank b

/-- Settles O12. -/
theorem romReads : Obligations.RomReads := by
  intro s a rom
  have range : s.romInRange a = true ↔ _ := s.romInRange_iff a
  refine ⟨range, fun inside => ?_, fun past => ?_, fun past pc mark => ?_⟩
  · rw [State.busRead_atRom rom, State.readRom, if_pos (range.mpr inside)]
    rfl
  · rw [State.busRead_atRom rom, State.readRom, if_neg (mt range.mp (Nat.not_lt.mpr past))]
  · subst pc
    have missing := Bool.eq_false_iff.mpr (mt range.mp (Nat.not_lt.mpr past))
    exact State.fetch8_of_missing (.inr mark) rom missing

/-! ### The controller's windows -/

section
variable {s : State} {a : Word} {v : Byte}

theorem State.manageWrite_ramEnable (hi : a.toNat ≤ 0x1FFF) :
    s.manageWrite a v = s.writeRamEnable v := if_pos hi

theorem State.manageWrite_romBank (lo : 0x2000 ≤ a.toNat) (hi : a.toNat ≤ 0x3FFF) :
    s.manageWrite a v = s.writeRomBank v := by
  rw [State.manageWrite, if_neg (by omega), if_pos hi]

theorem State.manageWrite_ramBank (lo : 0x4000 ≤ a.toNat) (hi : a.toNat ≤ 0x5FFF) :
    s.manageWrite a v = s.writeRamBank v := by
  rw [State.manageWrite, if_neg (by omega), if_neg (by omega), if_pos hi]

theorem State.manageWrite_modeOrLatch (lo : 0x6000 ≤ a.toNat) (hi : a.toNat ≤ 0x7FFF) :
    s.manageWrite a v = s.writeModeOrLatch v := by
  rw [State.manageWrite, if_neg (by omega), if_neg (by omega), if_neg (by omega), if_pos hi]

end

theorem lowNibble_eq_iff (v : Byte) : v &&& 0x0F = 0x0A ↔ v.toNat % 16 = 0x0A := by
  rw [← BitVec.toNat_inj, BitVec.toNat_and]
  exact iff_of_eq (congrArg (· = 0x0A) (Nat.and_two_pow_sub_one_eq_mod v.toNat 4))

/-- The RAM-enable window (R92). -/
theorem State.writeRamEnable_eq (s : State) (v : Byte) : s.writeRamEnable v = { s with
    mbc := { s.mbc with ramEnable := decide (v.toNat % 16 = 0x0A) }
    signals := s.signals ++
      (if s.mbc.ramEnable = true ∧ v.toNat % 16 ≠ 0x0A then [Signal.persistRam] else []) } := by
  unfold State.writeRamEnable
  simp only [lowNibble_eq_iff]
  by_cases on : v.toNat % 16 = 0x0A <;> cases enabled : s.mbc.ramEnable <;> simp [on]

/-- A coerced bank number is at least 1 (R95). -/
theorem coerceBank_eq (r : BitVec 7) : coerceBank r = BitVec.ofNat 7 (max 1 r.toNat) := by
  unfold coerceBank
  split
  · next zero => rw [zero]; rfl
  · next nonzero =>
    have pos : 0 < r.toNat := Nat.pos_of_ne_zero fun h => nonzero (BitVec.eq_of_toNat_eq h)
    rw [max_eq_right pos, BitVec.ofNat_toNat, BitVec.setWidth_eq]

theorem coerceBank_ne_zero (r : BitVec 7) : coerceBank r ≠ 0 := by
  unfold coerceBank
  split
  · decide
  · assumption

theorem State.writeRomBank_mbc1 {s : State} (h : s.mbc.kind = .mbc1) (v : Byte) :
    s.writeRomBank v = { s with
      mbc := { s.mbc with romReg := BitVec.ofNat 7 (max 1 (v.toNat % 32)) } } := by
  have bits : ((v.extractLsb' 0 5).zeroExtend 7).toNat = v.toNat % 32 := by
    rw [BitVec.toNat_setWidth, BitVec.extractLsb'_toNat]
    exact Nat.mod_eq_of_lt (lt_trans (Nat.mod_lt _ (by decide)) (by decide))
  rw [State.writeRomBank, h, ← bits, ← coerceBank_eq]

theorem State.writeRomBank_mbc35 {s : State} (h : s.mbc.kind = .mbc3 ∨ s.mbc.kind = .mbc5)
    (v : Byte) : s.writeRomBank v = { s with
      mbc := { s.mbc with romReg := BitVec.ofNat 7 (max 1 (v.toNat % 128)) } } := by
  have bits : (v.extractLsb' 0 7).toNat = v.toNat % 128 := BitVec.extractLsb'_toNat 0 7 v
  obtain h | h := h <;> rw [State.writeRomBank, h, ← bits, ← coerceBank_eq]

theorem State.writeRamBank_eq {s : State} (h : s.mbc.kind ≠ .noMbc) (v : Byte) :
    s.writeRamBank v = { s with mbc := { s.mbc with ramReg := BitVec.ofNat 2 v.toNat } } := by
  have bits : v.extractLsb' 0 2 = BitVec.ofNat 2 v.toNat := rfl
  rw [← bits, State.writeRamBank]
  cases kind : s.mbc.kind
  · exact absurd kind h
  all_goals rfl

theorem State.writeModeOrLatch_mbc1 {s : State} (h : s.mbc.kind = .mbc1) (v : Byte) :
    s.writeModeOrLatch v = { s with mbc := { s.mbc with mode := decide (v.toNat % 2 = 1) } } := by
  have bit : v.getLsbD 0 = decide (v.toNat % 2 = 1) := by simp [BitVec.getLsbD]
  rw [State.writeModeOrLatch, h, ← bit]

theorem State.writeModeOrLatch_mbc35 {s : State} (h : s.mbc.kind = .mbc3 ∨ s.mbc.kind = .mbc5)
    (v : Byte) :
    s.writeModeOrLatch v = { s with signals := s.signals ++ [Signal.unsupportedRtcLatch] } := by
  obtain h | h := h <;> rw [State.writeModeOrLatch, h]

/-- NoMBC ignores every window but the first (R91). -/
theorem State.manageWrite_noMbc {s : State} (h : s.mbc.kind = .noMbc) {a : Word} (v : Byte)
    (lo : 0x2000 ≤ a.toNat) (hi : a.toNat ≤ 0x7FFF) : s.manageWrite a v = s := by
  have rom : s.writeRomBank v = s := by rw [State.writeRomBank, h]
  have ram : s.writeRamBank v = s := by rw [State.writeRamBank, h]
  have mode : s.writeModeOrLatch v = s := by rw [State.writeModeOrLatch, h]
  rw [State.manageWrite, if_neg (by omega), if_pos hi, rom, ram, mode, ite_self, ite_self]

/-- What every controller but NoMBC does in the ROM-bank window (R92 to R95). -/
theorem State.writeRomBank_eq {s : State} (h : s.mbc.kind ≠ .noMbc) (v : Byte) :
    ∃ r, r ≠ 0 ∧ ∀ t : State, t.mbc.kind = s.mbc.kind →
      t.writeRomBank v = { t with mbc := { t.mbc with romReg := r } } := by
  cases kind : s.mbc.kind with
  | noMbc => exact absurd kind h
  | mbc1 =>
    exact ⟨_, coerceBank_ne_zero ((v.extractLsb' 0 5).zeroExtend 7),
      fun t same => by rw [State.writeRomBank, same]⟩
  | mbc3 | mbc5 =>
    exact ⟨_, coerceBank_ne_zero (v.extractLsb' 0 7),
      fun t same => by rw [State.writeRomBank, same]⟩

/-- The banks MBC1 maps (R92). -/
theorem Mbc.banks_mbc1 {m : Mbc} (h : m.kind = .mbc1) :
    m.romBank = m.romReg.toNat % 32 + (if m.mode then 0 else 32 * m.ramReg.toNat) ∧
      m.ramBank = if m.mode then m.ramReg.toNat else 0 := by
  have bank5 : (m.romReg.extractLsb' 0 5).toNat = m.romReg.toNat % 32 :=
    BitVec.extractLsb'_toNat 0 5 m.romReg
  have joined : (m.ramReg ++ m.romReg.extractLsb' 0 5).toNat =
      m.romReg.toNat % 32 + 32 * m.ramReg.toNat := by
    have small := (m.romReg.extractLsb' 0 5).isLt
    rw [BitVec.toNat_append, Nat.shiftLeft_eq, Nat.mul_comm, ← Nat.two_pow_add_eq_or_of_lt small,
      bank5, Nat.add_comm]
  rw [Mbc.romBank, Mbc.ramBank, h]
  refine ⟨?_, rfl⟩
  dsimp only
  rw [joined, bank5]
  split <;> rfl

/-- Settles O10: each window's write on each controller. -/
theorem controllerWindows : Obligations.ControllerWindows := by
  intro s a v
  have manage : a.toNat ≤ 0x7FFF → ∀ t : State, t.busWrite a v = t.manageWrite a v :=
    fun hi t => State.busWrite_atRom (by omega)
  refine ⟨fun hi => ?_, fun lo hi kind => ?_, fun lo hi kind => ?_, fun lo hi kind => ?_,
    fun lo hi kind => ?_, fun lo hi kind => ?_, fun lo hi kind => ?_, fun kind => ?_,
    Mbc.banks_mbc1, fun kind => ?_, fun lo hi kind => ?_⟩
  · rw [manage (by omega), State.manageWrite_ramEnable hi, State.writeRamEnable_eq]
  · rw [manage hi, State.manageWrite_noMbc kind v lo hi]
  · rw [manage (by omega), State.manageWrite_romBank lo hi, State.writeRomBank_mbc1 kind]
  · rw [manage (by omega), State.manageWrite_romBank lo hi, State.writeRomBank_mbc35 kind]
  · rw [manage (by omega), State.manageWrite_ramBank lo hi, State.writeRamBank_eq kind]
  · rw [manage hi, State.manageWrite_modeOrLatch lo hi, State.writeModeOrLatch_mbc1 kind]
  · rw [manage hi, State.manageWrite_modeOrLatch lo hi, State.writeModeOrLatch_mbc35 kind]
  · rw [Mbc.romBank, Mbc.ramBank, kind]
    exact ⟨rfl, rfl⟩
  · rw [Mbc.romBank, Mbc.ramBank]
    obtain kind | kind := kind <;> rw [kind] <;> exact ⟨rfl, rfl⟩
  · obtain ⟨r, nonzero, write⟩ := State.writeRomBank_eq kind v
    have once : ∀ t : State, t.mbc.kind = s.mbc.kind →
        t.busWrite a v = { t with mbc := { t.mbc with romReg := r } } := fun t same => by
      rw [manage (by omega), State.manageWrite_romBank lo hi, write t same]
    rw [once s rfl]
    exact ⟨nonzero, once _ rfl⟩

/-! ### The external RAM -/

theorem State.ramPresent_iff (s : State) (a : Word) :
    s.ramPresent a = true ↔ s.mbc.ramEnable = true ∧ s.mbc.ramOffset a < s.extRam.size := by
  rw [State.ramPresent, Bool.and_eq_true, decide_eq_true_iff]

/-- Settles O11: the byte is there exactly where RAM is enabled and the offset in range. -/
theorem externalRam : Obligations.ExternalRam := by
  intro s a v lo hi
  have offset : s.mbc.ramBank * 0x2000 + (a.toNat - 0xA000) = s.mbc.ramOffset a := rfl
  dsimp only
  rw [offset, State.busRead_atExtRam lo hi, State.busWrite_atExtRam lo hi, State.readRam,
    State.ramWrite]
  refine ⟨fun enabled inside => ?_, fun absent => ?_⟩
  · have present := (s.ramPresent_iff a).mpr ⟨enabled, inside⟩
    rw [if_pos present, if_pos present]
    exact ⟨rfl, rfl, rfl, Memory.read_write _ _ v⟩
  · have missing : ¬ s.ramPresent a = true := fun present => by
      obtain ⟨enabled, inside⟩ := (s.ramPresent_iff a).mp present
      obtain disabled | past := absent
      · exact Bool.false_ne_true (disabled.symm.trans enabled)
      · exact Nat.not_lt.mpr past inside
    rw [if_neg missing, if_neg missing]
    exact ⟨rfl, rfl⟩

end Sys2Proof.Machine
end

section
/-!
PROOFS. The bus addresses with a rule of their own: the joypad (R80), the OAM copy (R81), the APU's
window (R83, R510); and the stack where it lies in RAM (R196, R197).
-/

namespace Sys2Proof.Machine

/-! ### The joypad -/

/-- The four lowest bits: a group that is not selected reads as ones (R80). -/
theorem joypadValue_low (sel mask : Byte) {k : Nat} (hk : k < 4) :
    (joypadValue sel mask).getLsbD k =
      ((sel.getLsbD 4 || !mask.getLsbD k) && (sel.getLsbD 5 || !mask.getLsbD (k + 4))) := by
  unfold joypadValue
  interval_cases k <;> cases dir : sel.getLsbD 4 <;> cases act : sel.getLsbD 5 <;> simp

/-- The four highest bits: two ones and the selector (R80). -/
theorem joypadValue_high (sel mask : Byte) :
    (joypadValue sel mask).getLsbD 7 = true ∧ (joypadValue sel mask).getLsbD 6 = true ∧
    (joypadValue sel mask).getLsbD 5 = sel.getLsbD 5 ∧
    (joypadValue sel mask).getLsbD 4 = sel.getLsbD 4 := by
  simp [joypadValue]

/-- Settles O13. -/
theorem joypadRead : Obligations.JoypadRead := by
  intro s v
  dsimp only
  rw [State.busRead_atJoypad rfl, State.busWrite_eq_poke (.inr (.inr (by decide)))]
  obtain ⟨b7, b6, b5, b4⟩ := joypadValue_high (s.peek 0xFF00) (Config.inputMask s.inputReads)
  exact ⟨b7, b6, b5, b4, fun k hk => joypadValue_low _ _ hk, s.peek_poke_self 0xFF00 v⟩

/-! ### The APU's window -/

/-- Settles O15: the mask table is the model's, and NR52 has its own rule. -/
theorem apuReadBack : Obligations.ApuReadBack := by
  intro s off hoff
  have addr : (0xFF10 + BitVec.ofNat 16 off : Word).toNat = 0xFF10 + off := by bv_omega
  refine ⟨fun other => ?_, fun nr52 => ?_⟩
  · rw [State.busRead_atApu (by omega) (by omega) (by omega), addr, Nat.add_sub_cancel_left]
    rfl
  · rw [State.busRead_atNr52 (by omega), Apu.status]
    ac_rfl

/-! ### The OAM copy -/

/-- What a bus read at `x` sees of the machine: two states that agree on it read alike. -/
theorem State.busRead_congr {s t : State} {x : Word} (peek : t.peek x.toNat = s.peek x.toNat)
    (cartridge : t.rom = s.rom ∧ t.mbc = s.mbc ∧ t.extRam = s.extRam ∧ t.cfg = s.cfg)
    (apu : t.apu = s.apu)
    (draws : x.toNat < 0x8000 → s.romInRange x = false → t.romDraws = s.romDraws)
    (inputs : x.toNat = 0xFF00 → t.inputReads = s.inputReads) : t.busRead x = s.busRead x := by
  obtain ⟨rom, mbc, extRam, cfg⟩ := cartridge
  by_cases inRom : x.toNat < 0x8000
  · have range : t.romInRange x = s.romInRange x := by
      rw [State.romInRange, State.romInRange, rom, mbc]
    rw [State.busRead_atRom inRom, State.busRead_atRom inRom, State.readRom, State.readRom, range,
      rom, mbc]
    split
    · rfl
    · next missing => rw [draws inRom (Bool.eq_false_iff.mpr missing)]
  by_cases ext : 0xA000 ≤ x.toNat ∧ x.toNat ≤ 0xBFFF
  · have present : t.ramPresent x = s.ramPresent x := by
      rw [State.ramPresent, State.ramPresent, mbc, extRam]
    rw [State.busRead_atExtRam ext.1 ext.2, State.busRead_atExtRam ext.1 ext.2, State.readRam,
      State.readRam, present, extRam, mbc, cfg]
  by_cases joypad : x.toNat = 0xFF00
  · rw [joypad] at peek
    rw [State.busRead_atJoypad joypad, State.busRead_atJoypad joypad, peek, inputs joypad]
  by_cases nr52 : x.toNat = 0xFF26
  · rw [nr52] at peek
    rw [State.busRead_atNr52 nr52, State.busRead_atNr52 nr52, peek, apu]
  by_cases window : 0xFF10 ≤ x.toNat ∧ x.toNat ≤ 0xFF3F
  · rw [State.busRead_atApu window.1 window.2 nr52, State.busRead_atApu window.1 window.2 nr52, peek]
  · rw [State.busRead_eq_peek (by omega), State.busRead_eq_peek (by omega), peek]

/-- The address the copy from page `v` reads its byte `i` at. -/
def dmaSource (v : Byte) (i : Nat) : Word := mkWord v 0 + BitVec.ofNat 16 i

theorem toNat_dmaSource (v : Byte) {i : Nat} (hi : i < 0xA0) :
    (dmaSource v i).toNat = 256 * v.toNat + i := by
  have hv := v.isLt
  have zero : (0 : Byte).toNat = 0 := rfl
  rw [dmaSource, BitVec.toNat_add, toNat_mkWord, BitVec.toNat_ofNat, zero]
  omega

/-- The source of the first `c` bytes of the copy is nowhere past the end of the ROM image. -/
def State.DmaInRange (s : State) (v : Byte) (c : Nat) : Prop :=
  ∀ j < c, (dmaSource v j).toNat < 0x8000 → s.romInRange (dmaSource v j) = true

theorem State.busTouch_romDraws {s : State} {x : Word}
    (h : x.toNat < 0x8000 → s.romInRange x = true) : (s.busTouch x).romDraws = s.romDraws := by
  unfold State.busTouch
  split
  · next rom => rw [if_pos (h rom)]
  · split <;> rfl

section
variable {s : State} {v : Byte}

theorem State.dmaCopied_romInRange (c : Nat) (x : Word) :
    (s.dmaCopied v c).romInRange x = s.romInRange x := by
  obtain ⟨mbc, -⟩ := State.dmaFold_devices v (List.range c) s
  rw [State.romInRange, State.romInRange, State.dmaCopied, mbc, (State.dmaFold_frame v _ s).rom]

/-- While the source is in range the copy draws no free value. -/
theorem State.dmaCopied_romDraws {c : Nat}
    (range : s.DmaInRange v c) :
    (s.dmaCopied v c).romDraws = s.romDraws := by
  induction c with
  | zero => rfl
  | succ c ih =>
    rw [State.dmaCopied_succ, ← ih fun j hj => range j (by omega)]
    exact State.busTouch_romDraws fun rom =>
      (State.dmaCopied_romInRange c _).trans (range c (by omega) rom)

/-- What byte `c` of the copy reads is what it would have read before the copy, unless the source is
OAM itself. -/
theorem State.dmaCopied_busRead {c : Nat} (hc : c < 0xA0) (notOam : v ≠ 0xFE)
    (range : s.DmaInRange v 0xA0) :
    (s.dmaCopied v c).busRead (dmaSource v c) = s.busRead (dmaSource v c) := by
  have source := toNat_dmaSource v hc
  have page : v.toNat ≠ 0xFE := fun h => notOam (BitVec.eq_of_toNat_eq h)
  obtain ⟨mbc, -, extRam, -, apu⟩ := State.dmaFold_devices v (List.range c) s
  have frame := State.dmaFold_frame v (List.range c) s
  refine State.busRead_congr (s.peek_dmaCopied v (by omega) (by omega))
    ⟨frame.rom, mbc, extRam, frame.cfg⟩ apu
    (fun _ _ => State.dmaCopied_romDraws fun j hj => range j (by omega)) fun joypad => ?_
  obtain rfl : c = 0 := by omega
  rfl

/-- The bytes of OAM after the first `c` of the copy. -/
theorem State.dmaCopied_peek {c : Nat} (hc : c ≤ 0xA0) (notOam : v ≠ 0xFE)
    (range : s.DmaInRange v 0xA0)
    {i : Nat} (hi : i < c) : (s.dmaCopied v c).peek (0xFE00 + i) = s.busRead (dmaSource v i) := by
  induction c with
  | zero => omega
  | succ c ih =>
    rw [State.dmaCopied_succ, State.peek_dmaByte]
    by_cases last : i = c
    · subst last
      rw [if_pos rfl]
      exact State.dmaCopied_busRead (by omega) notOam range
    · rw [if_neg (by omega), ih (by omega) (by omega)]

/-- A copy of OAM onto itself changes no byte. -/
theorem State.dmaCopied_oam {c : Nat} (hc : c ≤ 0xA0) (n : Nat) :
    (s.dmaCopied 0xFE c).peek n = s.peek n := by
  induction c with
  | zero => rfl
  | succ c ih =>
    have source : (dmaSource 0xFE c).toNat = 0xFE00 + c := toNat_dmaSource 0xFE (by omega)
    rw [State.dmaCopied_succ, State.peek_dmaByte, ih (by omega)]
    split
    · next same =>
      show (s.dmaCopied 0xFE c).busRead (dmaSource 0xFE c) = s.peek n
      rw [State.busRead_eq_peek (by omega), source, ← same, ih (by omega)]
    · rfl

end

/-- Settles O14: the copy's 0xA0 bytes one by one, each read as before the copy. -/
theorem dmaCopies : Obligations.DmaCopies := by
  intro s v
  have addr : ∀ j < 0xA0, (dmaSource v j).toNat < 0x8000 → v.toNat < 0x80 := fun j hj rom => by
    rw [toNat_dmaSource v hj] at rom
    omega
  have frame := s.busWrite_frame 0xFF46 v
  rw [State.busWrite_atDma, State.dma_eq] at frame
  dsimp only
  rw [State.busWrite_atDma, State.dma_eq]
  refine ⟨fun i hi notOam range => ?_, fun oam n => ?_, fun n hn => ?_, frame.cycles, frame.halted⟩
  · have present : (s.poke 0xFF46 v).DmaInRange v 0xA0 :=
      fun j hj rom => range j hj (addr j hj rom)
    exact State.dmaCopied_peek le_rfl notOam present hi
  · subst oam
    exact State.dmaCopied_oam le_rfl n
  · exact State.peek_dmaCopied _ v le_rfl hn

/-! ### The stack in RAM -/

/-- The two bytes of a push are the array's bytes below SP. -/
theorem State.peek_push16 {s : State} (hi : RamAddress (s.sp - 1)) (lo : RamAddress (s.sp - 2))
    (v : Word) : (s.push16 v).peek (s.sp - 1).toNat = hiByte v ∧
      (s.push16 v).peek (s.sp - 2).toNat = loByte v := by
  have apart : ¬ storedBytes (s.sp - 2) (s.sp - 1).toNat := by
    unfold RamAddress PlainAddress at hi lo
    have next : (s.sp - 1).toNat = (s.sp - 2).toNat + 1 := by bv_omega
    unfold storedBytes
    split_ifs <;> omega
  rw [State.push16_eq]
  refine ⟨?_, lo.peek_busWrite _ _⟩
  exact (State.peek_busWrite _ _ _ apart).trans (hi.peek_busWrite _ _)

/-- A pop in a state that has the memory and the SP that a push left gives the pushed word (R196,
R197). -/
theorem State.popValue_of_pushed {s t : State} (hi : RamAddress (s.sp - 1))
    (lo : RamAddress (s.sp - 2)) {v : Word} (mem : t.mem = (s.push16 v).mem)
    (sp : t.sp = s.sp - 2) : t.popValue = v := by
  have peek : ∀ n, t.peek n = (s.push16 v).peek n := fun n => by rw [State.peek, mem, State.peek]
  have above : s.sp - 2 + 1 = s.sp - 1 := by bv_omega
  obtain ⟨high, low⟩ := State.peek_push16 hi lo v
  rw [State.popValue_eq, sp, above, hi.busRead, lo.busRead, State.busTouch_peek, peek, peek, high,
    low, mkWord_bytes]

theorem State.push16_sp (s : State) (v : Word) : (s.push16 v).sp = s.sp - 2 := by
  rw [State.push16_eq]

theorem State.popped_sp (s : State) : s.popped.sp = s.sp + 2 := by rw [State.popped_eq]

theorem State.reg16Stk_setReg16Stk (s : State) (r : Reg16Stk) (v : Word) :
    (s.setReg16Stk r v).reg16Stk r = v := by
  cases r <;> exact mkWord_bytes v

theorem State.addCycles_reg16Stk (s : State) (n : Nat) (r : Reg16Stk) :
    (s.addCycles n).reg16Stk r = s.reg16Stk r := by
  cases r <;> rfl

theorem State.setReg16Stk_sp (s : State) (r : Reg16Stk) (v : Word) :
    (s.setReg16Stk r v).sp = s.sp := by
  cases r <;> rfl

theorem State.call_sp (s : State) (target : Word) : (s.call target).sp = s.sp - 2 :=
  s.push16_sp s.pc

theorem State.call_mem (s : State) (target : Word) : (s.call target).mem = (s.push16 s.pc).mem := rfl

theorem State.ret_pc (s : State) : s.ret.pc = s.popValue := rfl

theorem State.ret_sp (s : State) : s.ret.sp = s.sp + 2 := s.popped_sp

/-- Settles O22: what is popped is what was pushed, and SP goes down by two and up again. -/
theorem stackRoundTrip : Obligations.StackRoundTrip := by
  intro s r r' a16 hi lo
  have back : s.sp - 2 + 2 = s.sp := by bv_omega
  have call : exec (.callA16 a16) s = .next ((s.call a16).addCycles (s.cost 0xCD)) := rfl
  have ret : ∀ t : State, exec .ret t = .next (t.ret.addCycles (t.cost 0xC9)) := fun _ => rfl
  refine ⟨⟨_, _, exec_push r s, exec_pop r' _, ?_, ?_⟩, ⟨_, _, call, ret _, rfl, ?_, ?_⟩⟩
  · rw [State.addCycles_reg16Stk, State.reg16Stk_setReg16Stk]
    exact State.popValue_of_pushed hi lo (State.addCycles_mem _ _)
      ((State.addCycles_sp _ _).trans (s.push16_sp _))
  · rw [State.addCycles_sp, State.setReg16Stk_sp, State.popped_sp, State.addCycles_sp,
      State.push16_sp, back]
  · rw [State.addCycles_pc, State.ret_pc]
    exact State.popValue_of_pushed hi lo ((State.addCycles_mem _ _).trans (s.call_mem a16))
      ((State.addCycles_sp _ _).trans (s.call_sp a16))
  · rw [State.addCycles_sp, State.ret_sp, State.addCycles_sp, State.call_sp, back]

end Sys2Proof.Machine
end

section
/-!
PROOFS. The frame of every instruction over memory and devices (R64, R66, R71): one lemma per shared
operation, then every instruction by the groups of the opcode map.
-/

namespace Sys2Proof.Machine

/-- From `s` to `t` the bus writes at the addresses `addrs` are all that reached memory and devices;
the timer's own sub-counter is out of their reach (R36). -/
structure StoreFrame (addrs : List Word) (s t : State) : Prop where
  stores : Stores addrs s t
  timaSub : t.timer.timaSub = s.timer.timaSub

/-- An operation that stores nothing. -/
theorem Stores.frame {s t : State} (h : Stores [] s t) : StoreFrame [] s t :=
  ⟨h, by rw [h.timer (by simp)]⟩

theorem StoreFrame.append {as bs : List Word} {s t u : State} (h : StoreFrame as s t)
    (k : StoreFrame bs t u) : StoreFrame (as ++ bs) s u :=
  ⟨h.stores.append k.stores, k.timaSub.trans h.timaSub⟩

theorem StoreFrame.after {addrs : List Word} {s t u : State} (h : Stores [] s t)
    (k : StoreFrame addrs t u) : StoreFrame addrs s u := h.frame.append k

theorem StoreFrame.before {addrs : List Word} {s t u : State} (h : StoreFrame addrs s t)
    (k : Stores [] t u) : StoreFrame addrs s u := by simpa using h.append k.frame

theorem StoreFrame.addCycles {addrs : List Word} {s t : State} (h : StoreFrame addrs s t) (n : Nat) :
    StoreFrame addrs s (t.addCycles n) := h.before (Stores.same [])

/-! ### The shared operations -/

theorem State.busTouch_stores (s : State) (x : Word) : Stores [] s (s.busTouch x) :=
  (s.busTouch_frame x).stores []

/-- One bus write (R66, R71). -/
theorem State.busWrite_stores (s : State) (x : Word) (v : Byte) :
    StoreFrame [x] s (s.busWrite x v) := by
  have reach := s.busWrite_reach x v
  have here : ∀ {P : Word → Prop}, (∀ y ∈ [x], P y) → P x := fun h => h x (List.mem_singleton_self x)
  exact ⟨⟨fun n h => s.peek_busWrite x v (here h), fun h => reach.controller (here h),
    fun h => reach.extRam (here h), fun h => reach.timer (here h), fun h => reach.apu (here h),
    fun h => by cases h⟩, s.busWrite_timaSub x v⟩

/-- Where an operand of table `x[]` is stored: at HL, or nowhere (R124). -/
def State.operandAddrs (s : State) (x : Operand8) : List Word := if x = .indHl then [s.hl] else []

theorem State.setOperand_stores (s : State) (x : Operand8) (v : Byte) :
    StoreFrame (s.operandAddrs x) s (s.setOperand x v) := by
  cases x
  case indHl => exact s.busWrite_stores s.hl v
  all_goals exact (Stores.same []).frame

theorem State.touchOperand_stores (s : State) (x : Operand8) : Stores [] s (s.touchOperand x) :=
  (s.touchOperand_frame x).stores []

/-- A read of an operand, a change of F, and a write back. -/
theorem State.writeBack_stores (s : State) (x : Operand8) (f v : Byte) :
    StoreFrame (s.operandAddrs x) s ({ s.touchOperand x with f := f }.setOperand x v) := by
  have read : Stores [] s { s.touchOperand x with f := f } :=
    (s.touchOperand_stores x).before (Stores.same [])
  have hl : ({ s.touchOperand x with f := f } : State).hl = s.hl := by
    have frame := s.touchOperand_frame x
    exact congrArg₂ mkWord frame.h frame.l
  have write := State.setOperand_stores { s.touchOperand x with f := f } x v
  rw [State.operandAddrs, hl] at write
  exact write.after read

theorem State.modify_stores (s : State) (x : Operand8) (r : Flagged 8) :
    StoreFrame (s.operandAddrs x) s (s.modify x r) := s.writeBack_stores x r.flags r.value

theorem State.resetBit_stores (s : State) (b : Nat) (x : Operand8) :
    StoreFrame (s.operandAddrs x) s (s.resetBit b x) := s.writeBack_stores x _ _

theorem State.assertBit_stores (s : State) (b : Nat) (x : Operand8) :
    StoreFrame (s.operandAddrs x) s (s.assertBit b x) := s.writeBack_stores x _ _

theorem State.bitTest_stores (s : State) (b : Nat) (x : Operand8) : Stores [] s (s.bitTest b x) :=
  (s.touchOperand_stores x).before (Stores.same [])

theorem State.alu_stores (s : State) (op : AluOp) (x : Operand8) : Stores [] s (s.alu op x) :=
  (s.touchOperand_stores x).before (Stores.same [])

theorem State.loadA_stores (s : State) (x : Word) : Stores [] s (s.loadA x) :=
  (s.busTouch_stores x).before (Stores.same [])

theorem State.load_stores (s : State) (dst src : Operand8) :
    StoreFrame (s.operandAddrs dst) s (s.load dst src) := by
  have frame := s.touchOperand_frame src
  have hl : (s.touchOperand src).hl = s.hl := congrArg₂ mkWord frame.h frame.l
  have write := (s.touchOperand src).setOperand_stores dst (s.operand src)
  rw [State.operandAddrs, hl] at write
  exact write.after (s.touchOperand_stores src)

theorem State.setReg16_stores (s : State) (r : Reg16) (v : Word) : Stores [] s (s.setReg16 r v) := by
  cases r <;> exact Stores.same []

theorem State.setReg16Stk_stores (s : State) (r : Reg16Stk) (v : Word) :
    Stores [] s (s.setReg16Stk r v) := by
  cases r <;> exact Stores.same []

theorem State.push16_stores (s : State) (v : Word) :
    StoreFrame [s.sp - 1, s.sp - 2] s (s.push16 v) := by
  rw [State.push16_eq]
  exact ((s.busWrite_stores _ _).append (State.busWrite_stores _ _ _)).before (Stores.same [])

theorem State.call_stores (s : State) (x : Word) : StoreFrame [s.sp - 1, s.sp - 2] s (s.call x) :=
  (s.push16_stores s.pc).before (Stores.same [])

theorem State.popped_stores (s : State) : Stores [] s s.popped := by
  rw [State.popped_eq]
  exact ((s.busTouch_stores _).before (State.busTouch_stores _ _)).before (Stores.same [])

theorem State.ret_stores (s : State) : Stores [] s s.ret := s.popped_stores.before (Stores.same [])

theorem State.busWrite16_stores (s : State) (x v : Word) :
    StoreFrame [x, x + 1] s (s.busWrite16 x v) :=
  (s.busWrite_stores _ _).append (State.busWrite_stores _ _ _)

/-! ### The second table -/

theorem operand8Of_eq_indHl (row : Byte) :
    operand8Of (row.extractLsb' 0 3).toNat = .indHl ↔ row.toNat % 8 = 6 := by
  have field : (row.extractLsb' 0 3).toNat = row.toNat % 8 := BitVec.extractLsb'_toNat 0 3 row
  have small : row.toNat % 8 < 8 := Nat.mod_lt _ (by decide)
  rw [field]
  interval_cases row.toNat % 8 <;> decide

/-- Where the two-byte instruction of a row of the second table stores: at HL by the field z, but for
the `BIT` block (R260, R273). -/
def State.cbAddrs (s : State) (row : Byte) : List Word :=
  if row.toNat % 8 = 6 ∧ (row.toNat < 0x40 ∨ 0x80 ≤ row.toNat) then [s.hl] else []

theorem storeAddrs_prefixCb (cb : Byte) (s : State) :
    storeAddrs (.prefixCb cb) s = s.cbAddrs (s.cfg.cbRow cb) := rfl

theorem State.cbAddrs_bit (s : State) {row : Byte} (h : row.toNat / 64 = 1) : s.cbAddrs row = [] :=
  if_neg (by omega)

theorem State.cbAddrs_of_ne (s : State) {row : Byte} (h : row.toNat / 64 ≠ 1) :
    s.cbAddrs row = s.operandAddrs (operand8Of (row.extractLsb' 0 3).toNat) := by
  have writes : row.toNat < 0x40 ∨ 0x80 ≤ row.toNat := by omega
  simp only [State.cbAddrs, State.operandAddrs, operand8Of_eq_indHl, writes, and_true]

theorem State.cbExecute_stores (s : State) (row : Byte) :
    StoreFrame (s.cbAddrs row) s (s.cbExecute row) := by
  have hrow := row.isLt
  have block : (row.extractLsb' 6 2).toNat = row.toNat / 64 := by
    rw [BitVec.extractLsb'_toNat, Nat.shiftRight_eq_div_pow]
    omega
  unfold State.cbExecute
  dsimp only
  split
  · rw [s.cbAddrs_of_ne (by omega)]
    exact (s.modify_stores _ _).addCycles _
  · rw [s.cbAddrs_bit (by omega)]
    exact (s.bitTest_stores _ _).frame.addCycles _
  · rw [s.cbAddrs_of_ne (by omega)]
    exact (s.resetBit_stores _ _).addCycles _
  · next not_bit _ =>
    rw [s.cbAddrs_of_ne (block ▸ not_bit)]
    exact (s.assertBit_stores _ _).addCycles _

/-! ### Every instruction -/

/-- What the stores of an instruction reach. -/
theorem exec_stores {i : Instr} {s t : State} (run : exec i s = .next t) :
    StoreFrame (storeAddrs i s) s t := by
  have done : ∀ {u : State} {addrs : List Word} {n : Nat}, exec i s = .next (u.addCycles n) →
      storeAddrs i s = addrs → StoreFrame addrs s u → StoreFrame (storeAddrs i s) s t :=
    fun hu ha frame => by
      rw [run] at hu
      rw [ha, Host.Outcome.next.inj hu]
      exact frame.addCycles _
  have quiet : ∀ {u : State} {n : Nat}, exec i s = .next (u.addCycles n) → storeAddrs i s = [] →
      Stores [] s u → StoreFrame (storeAddrs i s) s t := fun hu ha stores => done hu ha stores.frame
  have idle : Stores [] s s := Stores.same []
  induction i using Instr.byGroup with
  | ld dst src =>
    by_cases halt : dst = .indHl ∧ src = .indHl
    · obtain ⟨rfl, rfl⟩ := halt
      exact quiet (u := { s with halted := true }) rfl rfl (Stores.same [])
    · refine done (exec_ld dst src halt s) ?_ (s.load_stores dst src)
      rw [storeAddrs_ld, State.operandAddrs]
      exact if_congr (and_iff_left_of_imp fun h k => halt ⟨h, k⟩) rfl rfl
  | alu op x => exact quiet (exec_alu op x s) (storeAddrs_alu op x s) (s.alu_stores op x)
  | aluImm op d8 =>
    exact quiet (exec_aluImm op d8 s) (storeAddrs_aluImm op d8 s)
      (Stores.same (t := s.aluWith op d8) [])
  | inc x => exact done (exec_inc x s) (storeAddrs_inc x s) (s.modify_stores x _)
  | dec x => exact done (exec_dec x s) (storeAddrs_dec x s) (s.modify_stores x _)
  | ldImm x d8 => exact done (exec_ldImm x d8 s) (storeAddrs_ldImm x d8 s) (s.setOperand_stores x d8)
  | ldImm16 r d16 =>
    exact quiet (exec_ldImm16 r d16 s) (storeAddrs_ldImm16 r d16 s) (s.setReg16_stores r d16)
  | addHl r =>
    exact quiet (exec_addHl r s) (storeAddrs_addHl r s) (Stores.same (t := s.addToHl r) [])
  | inc16 r => exact quiet (exec_inc16 r s) (storeAddrs_inc16 r s) (s.setReg16_stores r _)
  | dec16 r => exact quiet (exec_dec16 r s) (storeAddrs_dec16 r s) (s.setReg16_stores r _)
  | push r => exact done (exec_push r s) (storeAddrs_push r s) (s.push16_stores _)
  | pop r =>
    exact quiet (exec_pop r s) (storeAddrs_pop r s)
      (s.popped_stores.before (State.setReg16Stk_stores _ r _))
  | jrCc cc e8 =>
    have addrs := storeAddrs_jrCc cc e8 s
    have answer := exec_jrCc cc e8 s
    split at answer
    · exact quiet answer addrs (Stores.same (t := s.jumpRel e8) [])
    · exact quiet answer addrs idle
  | jpCc cc a16 =>
    have addrs := storeAddrs_jpCc cc a16 s
    have answer := exec_jpCc cc a16 s
    split at answer
    · exact quiet answer addrs (Stores.same (t := s.jumpTo a16) [])
    · exact quiet answer addrs idle
  | callCc cc a16 =>
    have addrs := storeAddrs_callCc cc a16 s
    have answer := exec_callCc cc a16 s
    split at answer
    · next taken => exact done answer (addrs.trans (if_pos taken)) (s.call_stores a16)
    · next skipped => exact quiet answer (addrs.trans (if_neg skipped)) idle
  | retCc cc =>
    have addrs := storeAddrs_retCc cc s
    have answer := exec_retCc cc s
    split at answer
    · exact quiet answer addrs s.ret_stores
    · exact quiet answer addrs idle
  | rst y hy => exact done (exec_rst hy s) (storeAddrs_rst hy s) (s.call_stores _)
  | rot op x => exact done (exec_rot op x s) (storeAddrs_rot op x s) (s.modify_stores x _)
  | bit b hb x => exact quiet (exec_bit hb x s) (storeAddrs_bit hb x s) (s.bitTest_stores b x)
  | res b hb x => exact done (exec_res hb x s) (storeAddrs_res hb x s) (s.resetBit_stores b x)
  | set b hb x => exact done (exec_set hb x s) (storeAddrs_set hb x s) (s.assertBit_stores b x)
  | ldIndA16Sp a16 => exact done rfl rfl (s.busWrite16_stores a16 _)
  | ldIndBcA => exact done rfl rfl (s.busWrite_stores s.bc s.a)
  | ldIndDeA => exact done rfl rfl (s.busWrite_stores s.de s.a)
  | ldIndHlIncA =>
    exact done rfl rfl ((s.busWrite_stores s.hl s.a).before (State.setReg16_stores _ .hl _))
  | ldIndHlDecA =>
    exact done rfl rfl ((s.busWrite_stores s.hl s.a).before (State.setReg16_stores _ .hl _))
  | ldhIndA8A a8 => exact done rfl rfl (s.busWrite_stores (highPage a8) s.a)
  | ldIndCA => exact done rfl rfl (s.busWrite_stores (highPage s.c) s.a)
  | ldIndA16A a16 => exact done rfl rfl (s.busWrite_stores a16 s.a)
  | ldAIndBc => exact quiet rfl rfl (s.loadA_stores _)
  | ldAIndDe => exact quiet rfl rfl (s.loadA_stores _)
  | ldAIndHlInc =>
    exact quiet rfl rfl ((s.loadA_stores _).before (State.setReg16_stores _ .hl _))
  | ldAIndHlDec =>
    exact quiet rfl rfl ((s.loadA_stores _).before (State.setReg16_stores _ .hl _))
  | ldhAIndA8 a8 => exact quiet rfl rfl (s.loadA_stores _)
  | ldAIndC => exact quiet rfl rfl (s.loadA_stores _)
  | ldAIndA16 a16 => exact quiet rfl rfl (s.loadA_stores _)
  | callA16 a16 => exact done rfl rfl (s.call_stores a16)
  | ret => exact quiet rfl rfl s.ret_stores
  | reti =>
    exact quiet rfl rfl (s.ret_stores.before (u := s.returnFromInterrupt) (Stores.same []))
  | prefixCb cb =>
    cases run
    rw [storeAddrs_prefixCb]
    exact s.cbExecute_stores _
  | stop pad =>
    obtain rfl | rfl | rfl := execStop_cases run <;> exact (Stores.same []).frame
  | _ =>
    cases run
    exact (Stores.same []).frame

/-- Settles O37: the reach of the instruction's stores, and what every instruction keeps. -/
theorem memoryFrame : Obligations.MemoryFrame := by
  intro i s t run
  obtain ⟨stores, timaSub⟩ := exec_stores run
  have keeps := exec_keeps run
  refine ⟨stores.peek, ?_, stores.controller, stores.extRam, stores.timer, stores.apu, stores.none⟩
  exact ⟨keeps.rom, keeps.cfg, keeps.ppu, keeps.vblank, keeps.kind, keeps.ramSize, timaSub⟩

end Sys2Proof.Machine
end

section
/-!
PROOFS. The cartridge over a step (R105) and over a load (R69, R90, R96, R525).
-/

namespace Sys2Proof.Machine

/-! ### A step -/

/-- From `s` to `t` the ROM, the parameters, the controller's kind and the RAM's size are the same. -/
def SameCartridge (s t : State) : Prop :=
  t.rom = s.rom ∧ t.cfg = s.cfg ∧ t.mbc.kind = s.mbc.kind ∧ t.extRam.size = s.extRam.size

theorem SameCartridge.trans {s t u : State} (h : SameCartridge s t) (k : SameCartridge t u) :
    SameCartridge s u :=
  ⟨k.1.trans h.1, k.2.1.trans h.2.1, k.2.2.1.trans h.2.2.1, k.2.2.2.trans h.2.2.2⟩

theorem Keeps.cartridge {s t : State} (h : Keeps s t) : SameCartridge s t :=
  ⟨h.rom, h.cfg, h.kind, h.ramSize⟩

theorem State.feedSince_cartridge (s : State) (c0 : Nat) : SameCartridge s (s.feedSince c0) := by
  have frame := s.feedDevices_frame (s.cycles - c0)
  exact ⟨frame.rom, frame.cfg, congrArg Mbc.kind frame.mbc, congrArg Image.size frame.extRam⟩

theorem State.haltedTick_cartridge (s : State) : SameCartridge s s.haltedTick := by
  rw [State.haltedTick_eq]
  split <;> exact ⟨rfl, rfl, rfl, rfl⟩

theorem State.settle_cartridge (s : State) (promote : Bool) (c0 : Nat) :
    SameCartridge s (s.settle promote c0) := by
  unfold State.settle
  split
  · exact ⟨rfl, rfl, rfl, rfl⟩
  · have finish : SameCartridge s (s.finishInstr promote) := by
      rw [State.finishInstr_eq]
      exact ⟨rfl, rfl, rfl, rfl⟩
    exact finish.trans (State.feedSince_cartridge _ c0)

/-- No step changes the ROM, the parameters, the controller or the RAM's size (R8, R105). -/
theorem step_cartridge {s t : State} (next : step s = .next t) : SameCartridge s t := by
  obtain ⟨-, steps⟩ := step_cases next
  cases steps with
  | dispatch _ eq =>
    rw [eq]
    exact (s.takeInterrupt_keeps _).cartridge.trans (State.feedSince_cartridge _ _)
  | tick _ _ eq =>
    rw [eq]
    exact s.haltedTick_cartridge.trans (State.feedSince_cartridge _ _)
  | fatal _ _ fetch => exact (State.fetchInstr_fatal fetch).frame.keeps.cartridge
  | instr _ _ i u v fetch run eq =>
    rw [eq]
    exact ((State.fetchInstr_ok fetch).2.frame.keeps.trans (exec_keeps run)).cartridge.trans
      (State.settle_cartridge _ _ _)

/-- Settles O45. -/
theorem liveCoreSteps : Obligations.LiveCoreSteps := by
  intro s live
  obtain ⟨t, next⟩ := step_exists live
  exact ⟨t, next, step_cartridge next⟩

/-! ### A load -/

/-- The sum of the header bytes that `headerChecksum` negates (R69). -/
def headerSum (bytes : List Byte) : Nat :=
  ((List.range 25).map fun i => (imageByte bytes (0x134 + i)).toNat).sum

/-- A sum of bytes, modulo 256. -/
theorem toNat_foldl_add (f : Nat → Byte) (l : List Nat) (start : Byte) :
    (l.foldl (fun sum i => sum + f i) start).toNat =
      (start.toNat + (l.map fun i => (f i).toNat).sum) % 256 := by
  induction l generalizing start with
  | nil => exact (Nat.mod_eq_of_lt start.isLt).symm
  | cons i l ih =>
    rw [List.foldl_cons, ih, List.map_cons, List.sum_cons, BitVec.toNat_add, Nat.mod_add_mod,
      Nat.add_assoc]

/-- The header checksum as a sum (R69). -/
theorem headerChecksum_eq_iff (bytes : List Byte) (v : Byte) :
    headerChecksum bytes = v ↔ (headerSum bytes + v.toNat + 1) % 256 = 0 := by
  have total := toNat_foldl_add (fun i => imageByte bytes (0x134 + i)) (List.range 25) 0
  change _ = (0 + headerSum bytes) % 256 at total
  unfold headerChecksum
  generalize (List.range 25).foldl (fun sum i => sum + imageByte bytes (0x134 + i)) 0 = sum at total ⊢
  have h1 := sum.isLt
  have h2 := v.isLt
  have one : (1 : Byte).toNat = 1 := rfl
  rw [← BitVec.toNat_inj, BitVec.toNat_sub, BitVec.toNat_neg, one]
  omega

/-- The controller of a type byte, by R90's lists. -/
theorem mbcKindOf_eq (type : Byte) : mbcKindOf type =
    if type.toNat = 0x00 then some .noMbc
    else if type.toNat ∈ [0x01, 0x02, 0x03] then some .mbc1
    else if type.toNat ∈ [0x0F, 0x10, 0x11, 0x12, 0x13] then some .mbc3
    else if type.toNat ∈ [0x19, 0x1A, 0x1B, 0x1C, 0x1D, 0x1E] then some .mbc5
    else none := by
  have mbc1 : type.toNat ∈ [0x01, 0x02, 0x03] ↔ 0x01 ≤ type.toNat ∧ type.toNat ≤ 0x03 := by
    simp only [List.mem_cons, List.not_mem_nil, or_false]
    omega
  have mbc3 : type.toNat ∈ [0x0F, 0x10, 0x11, 0x12, 0x13] ↔
      0x0F ≤ type.toNat ∧ type.toNat ≤ 0x13 := by
    simp only [List.mem_cons, List.not_mem_nil, or_false]
    omega
  have mbc5 : type.toNat ∈ [0x19, 0x1A, 0x1B, 0x1C, 0x1D, 0x1E] ↔
      0x19 ≤ type.toNat ∧ type.toNat ≤ 0x1E := by
    simp only [List.mem_cons, List.not_mem_nil, or_false]
    omega
  simp only [mbcKindOf, mbc1, mbc3, mbc5]

/-- The RAM size of a code (R69). -/
theorem ramSizeOf_eq (code : Byte) : ramSizeOf code =
    match code.toNat with
    | 0 => some 0
    | 1 => some 2048
    | 2 => some 8192
    | 3 => some 32768
    | _ => none := by
  unfold ramSizeOf
  generalize code.toNat = n
  rcases n with _ | _ | _ | _ | n <;> rfl

/-- The state with an image and a fresh controller of a kind, before the external RAM is filled
(R525). -/
def State.withImage (s : State) (bytes : List Byte) (kind : MbcKind) : State :=
  { s with rom := { size := bytes.length, data := Memory.ofBytes 0 bytes }, mbc := Mbc.fresh kind }

section
variable {s : State} {bytes : List Byte} {saved : Option (List Byte)}

theorem State.loadRom_badChecksum (bad : headerChecksum bytes ≠ imageByte bytes 0x14D) :
    s.loadRom bytes saved = .rejected .badChecksum := if_pos bad

variable (good : headerChecksum bytes = imageByte bytes 0x14D)
include good

theorem State.loadRom_unknownType (type : mbcKindOf (imageByte bytes 0x147) = none) :
    s.loadRom bytes saved = .rejected .unknownType := by
  rw [State.loadRom, if_neg (not_not_intro good), type]

theorem State.loadRom_unknownRamCode (type : mbcKindOf (imageByte bytes 0x147) ≠ none)
    (code : ramSizeOf (imageByte bytes 0x149) = none) :
    s.loadRom bytes saved = .rejected .unknownRamCode := by
  obtain ⟨kind, type⟩ := Option.ne_none_iff_exists'.mp type
  rw [State.loadRom, if_neg (not_not_intro good), type, code]

theorem State.loadRom_loaded {kind : MbcKind} {size : Nat}
    (type : mbcKindOf (imageByte bytes 0x147) = some kind)
    (code : ramSizeOf (imageByte bytes 0x149) = some size) :
    s.loadRom bytes saved = .loaded ((s.withImage bytes kind).loadRam size saved) := by
  rw [State.loadRom, if_neg (not_not_intro good), type, code]
  rfl

end

/-- Filling the external RAM changes it and the signals alone (R96). -/
theorem State.loadRam_only (s : State) (size : Nat) (saved : Option (List Byte)) :
    s.loadRam size saved = { s with
      extRam := (s.loadRam size saved).extRam, signals := (s.loadRam size saved).signals } := by
  unfold State.loadRam
  split
  · rfl
  · split <;> rfl

/-- A wrong number of bytes is signalled (R96). -/
theorem State.loadRam_signals (s : State) (size : Nat) (saved : Option (List Byte)) :
    (s.loadRam size saved).signals =
      match saved with
      | none => s.signals
      | some ram => if ram.length = size then s.signals else s.signals ++ [.saveSizeMismatch] := by
  unfold State.loadRam
  cases saved with
  | none => rfl
  | some ram => dsimp only; split <;> rfl

/-- Settles O59: the three tests of the header in their order, then the image, a fresh controller and
the external RAM. -/
theorem loadRom : Obligations.LoadRom := by
  intro s bytes saved header sum good type kind size
  have checksum : headerChecksum bytes = imageByte bytes 0x14D ↔ good :=
    headerChecksum_eq_iff bytes _
  have kind_eq : mbcKindOf (imageByte bytes 0x147) = kind := mbcKindOf_eq _
  have size_eq : ramSizeOf (imageByte bytes 0x149) = size := ramSizeOf_eq _
  refine ⟨fun bad => State.loadRom_badChecksum (mt checksum.mp bad), fun ok none => ?_,
    fun ok known none => ?_, fun k n ok known sized => ?_⟩
  · exact State.loadRom_unknownType (checksum.mpr ok) (kind_eq.trans none)
  · exact State.loadRom_unknownRamCode (checksum.mpr ok) (kind_eq.trans_ne known) (size_eq.trans none)
  · have only := (s.withImage bytes k).loadRam_only n saved
    have signals := (s.withImage bytes k).loadRam_signals n saved
    have fill := (s.withImage bytes k).loadRam_read n saved
    have rom : ((s.withImage bytes k).loadRam n saved).rom = (s.withImage bytes k).rom := by
      rw [only]
    refine ⟨_, State.loadRom_loaded (checksum.mpr ok) (kind_eq.trans known) (size_eq.trans sized),
      by rw [only]; rfl, congrArg Image.size rom, fun i _ => ?_, (fill 0).1,
      fun nothing => ?_, fun ram held fits => ?_, fun ram held wrong => ?_⟩
    · rw [rom]
      exact Memory.read_image bytes i
    · subst nothing
      exact ⟨signals, fun i => (fill i).2⟩
    · subst held
      exact ⟨signals.trans (if_pos fits), fun i _ => (fill i).2.trans (if_pos fits)⟩
    · subst held
      exact ⟨signals.trans (if_neg wrong), fun i => (fill i).2.trans (if_neg wrong)⟩

end Sys2Proof.Machine
end

section
/-!
PROOFS. The encoding, from the other side (R120 to R140): an instruction is read back from its own
bytes, and the entries of both tables by the fields of a byte.
-/

namespace Sys2Proof.Proofs.Encoding

/-! ### Decoding what was encoded -/

/-- What `decode` reads from a byte string (R140), with zeros for the bytes it lacks. -/
def decodeList : List Byte → Instr
  | [] => decode 0 0 0
  | [b0] => decode b0 0 0
  | [b0, b1] => decode b0 b1 0
  | b0 :: b1 :: b2 :: _ => decode b0 b1 b2

/-- R120, R136: no instruction has more than three bytes. -/
theorem instrLength_le (b : Byte) : instrLength b ≤ 3 := by
  unfold instrLength
  split
  · exact le_rfl
  · split <;> decide

/-- A string as long as its first byte asks for is one instruction, whatever follows it. -/
theorem decodeBytes_append {bs : List Byte} (len : bs.length = instrLength (bs.headD 0))
    (rest : List Byte) : decodeBytes (bs ++ rest) = .ok (decodeList bs, rest) := by
  match bs with
  | [] => exact absurd len (by decide)
  | [b0] | [b0, b1] | [b0, b1, b2] =>
    simp only [List.headD_cons, List.length_cons, List.length_nil] at len
    simp only [List.cons_append, List.nil_append, decodeBytes, ← len, decodeList]
  | b0 :: b1 :: b2 :: b3 :: bs =>
    have bound := instrLength_le b0
    simp only [List.headD_cons, List.length_cons] at len
    omega

/-- R120, R136: the law of `Laws.Encoding` for every instruction. -/
theorem length_encode {i : Instr} (wf : i.WellFormed) :
    (encode i).length = instrLength ((encode i).headD 0) := by
  cases i with
  | illegal op => exact Laws.Encoding.illegal op wf
  | _ => rfl

/-- A word immediate is put together again from its two bytes (R62); a byte immediate is itself a byte
of the encoding. -/
theorem decodeList_encode {i : Instr} (wf : i.WellFormed) : decodeList (encode i) = i := by
  cases i with
  | illegal op => exact decode_of_mem_illegalOpcodes (List.contains_iff_mem.mp wf) 0 0
  | prefixCb cb => cases wf
  | ldBcD16 w | ldDeD16 w | ldHlD16 w | ldSpD16 w | ldIndA16Sp w | ldIndA16A w | ldAIndA16 w
  | jpA16 w | jpNzA16 w | jpZA16 w | jpNcA16 w | jpCA16 w
  | callA16 w | callNzA16 w | callZA16 w | callNcA16 w | callCA16 w =>
    exact congrArg _ (mkWord_bytes w)
  | _ => rfl

/-- Settles O3: the bytes of an instruction are as many as the first one asks for, and `decode` reads
the instruction from them. -/
theorem decodeEncode : Obligations.DecodeEncode := by
  intro i rest wf
  rw [decodeBytes_append (length_encode wf), decodeList_encode wf]

/-! ### The operand tables as lists (R124 to R127, R131, R133) -/

section
variable (n : Nat)

theorem getD_operand8 :
    ([.b, .c, .d, .e, .h, .l, .indHl, .a] : List Operand8).getD n .a = operand8Of n := by
  match n with
  | 0 | 1 | 2 | 3 | 4 | 5 | 6 | 7 | _ + 8 => rfl

theorem getD_reg16 : ([.bc, .de, .hl, .sp] : List Reg16).getD n .sp = reg16Of n := by
  match n with
  | 0 | 1 | 2 | 3 | _ + 4 => rfl

theorem getD_reg16Stk : ([.bc, .de, .hl, .af] : List Reg16Stk).getD n .af = reg16StkOf n := by
  match n with
  | 0 | 1 | 2 | 3 | _ + 4 => rfl

theorem getD_cond : ([.nz, .z, .nc, .c] : List Cond).getD n .c = condOf n := by
  match n with
  | 0 | 1 | 2 | 3 | _ + 4 => rfl

theorem getD_aluOp :
    ([.add, .adc, .sub, .sbc, .and, .xor, .or, .cp] : List AluOp).getD n .cp = aluOpOf n := by
  match n with
  | 0 | 1 | 2 | 3 | 4 | 5 | 6 | 7 | _ + 8 => rfl

theorem getD_rotOp :
    ([.rlc, .rrc, .rl, .rr, .sla, .sra, .swap, .srl] : List RotOp).getD n .srl = rotOpOf n := by
  match n with
  | 0 | 1 | 2 | 3 | 4 | 5 | 6 | 7 | _ + 8 => rfl

end

/-! ### The opcode map by the fields of a byte -/

/-- The entry of the first-byte table at the fields x, y, z (R122, R129 to R132). -/
def firstEntry (x y z : Nat) (op b1 b2 : Byte) : Instr :=
  match x with
  | 0 => decodeBlock0 y z b1 b2
  | 1 => ldOf (operand8Of y) (operand8Of z)
  | 2 => aluOf (aluOpOf y) (operand8Of z)
  | _ => decodeBlock3 op y z b1 b2

/-- The entry of the table behind the prefix at the fields x, y, z (R123, R133). -/
def cbEntry (x y z : Nat) : Instr :=
  match x with
  | 0 => rotOf (rotOpOf y) (operand8Of z)
  | 1 => bitOf y (operand8Of z)
  | 2 => resOf y (operand8Of z)
  | _ => setOf y (operand8Of z)

section
variable {n : Nat} (x y z : Nat) (hx : x < 4) (hy : y < 8) (hz : z < 8)
  (byte : n = 64 * x + 8 * y + z) (b1 b2 : Byte)
include hx hy hz byte

theorem decode_eq_firstEntry (entry : n ≠ 0xCB) :
    decode (BitVec.ofNat 8 n) b1 b2 = firstEntry x y z (BitVec.ofNat 8 n) b1 b2 := by
  have not_prefix : BitVec.ofNat 8 n ≠ 0xCB := by bv_omega
  rw [decode_eq_decodeFirst (reads_decodeFirst not_prefix b1 b2).1]
  obtain ⟨field_x, field_y, field_z⟩ := fields_opByte hx hy hz
  rw [opByte, ← byte] at field_x field_y field_z
  rw [decodeFirst, field_x, field_y, field_z]
  rfl

theorem decode_eq_cbEntry : decode 0xCB (BitVec.ofNat 8 n) b2 = cbEntry x y z := by
  obtain ⟨field_x, field_y, field_z⟩ := fields_opByte hx hy hz
  rw [opByte, ← byte] at field_x field_y field_z
  rw [decode_prefix, decodeCb, field_x, field_y, field_z]
  rfl

end

section
variable {p : Nat} (b1 b2 : Byte)

/-- R129: the groups of block 0 that the pair or condition number p selects. -/
theorem decode_block0_by_p (hp : p < 4) :
    decode (BitVec.ofNat 8 (0x01 + 16 * p)) b1 b2 = ldImm16Of (reg16Of p) (mkWord b2 b1) ∧
      decode (BitVec.ofNat 8 (0x09 + 16 * p)) b1 b2 = addHlOf (reg16Of p) ∧
      decode (BitVec.ofNat 8 (0x03 + 16 * p)) b1 b2 = inc16Of (reg16Of p) ∧
      decode (BitVec.ofNat 8 (0x0B + 16 * p)) b1 b2 = dec16Of (reg16Of p) ∧
      decode (BitVec.ofNat 8 (0x20 + 8 * p)) b1 b2 = jrCcOf (condOf p) b1 := by
  interval_cases p <;> exact ⟨rfl, rfl, rfl, rfl, rfl⟩

/-- R132: the groups of block 3 that the pair or condition number p selects. -/
theorem decode_block3_by_p (hp : p < 4) :
    decode (BitVec.ofNat 8 (0xC0 + 8 * p)) b1 b2 = retCcOf (condOf p) ∧
      decode (BitVec.ofNat 8 (0xC1 + 16 * p)) b1 b2 = popOf (reg16StkOf p) ∧
      decode (BitVec.ofNat 8 (0xC2 + 8 * p)) b1 b2 = jpCcOf (condOf p) (mkWord b2 b1) ∧
      decode (BitVec.ofNat 8 (0xC4 + 8 * p)) b1 b2 = callCcOf (condOf p) (mkWord b2 b1) ∧
      decode (BitVec.ofNat 8 (0xC5 + 16 * p)) b1 b2 = pushOf (reg16StkOf p) := by
  interval_cases p <;> exact ⟨rfl, rfl, rfl, rfl, rfl⟩

end

/-- Settles O1: each word by evaluation of the decoder. -/
theorem decodeWords : Obligations.DecodeWords := by
  unfold Obligations.DecodeWords
  decide

/-- Settles O2: the groups by their fields, the opcodes that stand alone by evaluation. -/
theorem opcodeMap : Obligations.OpcodeMap := by
  intro y z p b1 b2 hy hz hp
  simp only [getD_operand8, getD_reg16, getD_reg16Stk, getD_cond, getD_aluOp, getD_rotOp]
  have entry {n : Nat} (x y z : Nat) := decode_eq_firstEntry (n := n) x y z (b1 := b1) (b2 := b2)
  have cb_entry {n : Nat} (x : Nat) (hx : x < 4) :=
    decode_eq_cbEntry (n := n) x y z hx hy hz (b2 := b2)
  obtain ⟨ldImm16, addHl, inc16, dec16, jrCc⟩ := decode_block0_by_p b1 b2 hp
  obtain ⟨retCc, pop, jpCc, callCc, push⟩ := decode_block3_by_p b1 b2 hp
  refine ⟨⟨ldImm16, addHl, inc16, dec16, ?_, ?_, ?_, jrCc⟩, fun _ => ?_, rfl, ?_,
    ⟨retCc, pop, jpCc, callCc, push, ?_, ?_⟩, ?_, ?_, ⟨?_, ?_, ?_, ?_⟩, fun n hole => ?_⟩
  · exact entry 0 y 4 (by decide) hy (by decide) (by omega) (by omega)
  · exact entry 0 y 5 (by decide) hy (by decide) (by omega) (by omega)
  · exact entry 0 y 6 (by decide) hy (by decide) (by omega) (by omega)
  · exact entry 1 y z (by decide) hy hz rfl (by omega)
  · exact entry 2 y z (by decide) hy hz rfl (by omega)
  · exact entry 3 y 6 (by decide) hy (by decide) (by omega) (by omega)
  · exact entry 3 y 7 (by decide) hy (by decide) (by omega) (by omega)
  · and_intros <;> rfl
  · and_intros <;> rfl
  · exact cb_entry 0 (by decide) (by omega)
  · exact cb_entry 1 (by decide) rfl
  · exact cb_entry 2 (by decide) rfl
  · exact cb_entry 3 (by decide) rfl
  · exact decode_of_mem_illegalOpcodes (List.mem_map_of_mem (f := BitVec.ofNat 8) hole) b1 b2

end Sys2Proof.Proofs.Encoding
end

section
/-!
PROOFS. The 8-bit loads and stores (R160 to R179): a register loaded, a byte stored by one bus write,
and A loaded by one bus read.
-/

namespace Sys2Proof.Machine

/-! ### A register loaded -/

theorem State.operand_addCycles (s : State) (n : Nat) (x : Operand8) :
    (s.addCycles n).operand x = s.operand x := by
  cases x <;> rfl

/-- A register written after a bus read of `s` or no read at all, with `n` cycles: it holds the byte,
and no other register, F or device has changed. -/
theorem registerLoaded {s u : State} (read : ReadFrame s u) {dst : Operand8} (reg : dst ≠ .indHl)
    (v : Byte) (n : Nat) :
    ((u.setOperand dst v).addCycles n).operand dst = v ∧
      ((u.setOperand dst v).addCycles n).f = s.f ∧
      RegisterOnly s ((u.setOperand dst v).addCycles n) dst n := by
  refine ⟨?_, ?_, registerOnly_setOperand reg v n ?_⟩
  · rw [State.operand_addCycles, State.operand_setOperand u reg]
  · rw [State.addCycles_f, u.setOperand_eq reg]
    exact read.f
  · rw [read.eq]

/-- Settles O16: both forms write the register after a read of the source, or of nothing. -/
theorem loadRegister : Obligations.LoadRegister := by
  intro s dst src d8 reg
  have fromOperand := exec_ld dst src (fun h => reg h.1) s
  have fromImmediate := exec_ldImm dst d8 s
  simp only [reg, false_or] at fromOperand
  rw [memCycles, if_neg reg] at fromImmediate
  exact ⟨⟨_, fromOperand, registerLoaded (s.touchOperand_frame src) reg _ _⟩,
    ⟨_, fromImmediate, registerLoaded (ReadFrame.refl s) reg _ _⟩⟩

/-! ### One bus access -/

/-- An instruction that reaches `t` without touching the cycle counter, and then adds the entry of its
row: the cycle counter of `s` plus the rule's cycles (R8, R551, R552). -/
theorem exec_timed {i : Instr} {n : Nat} {s t : State} (rule : defaultTime i = n)
    (run : exec i s = .next (t.addCycles (s.cyclesOf i))) (kept : t.cycles = s.cycles) :
    exec i s = .next { t with cycles := s.cycles + s.time i n } := by
  rw [run, State.addCycles, kept, State.time_eq rule]

/-- `LD (HL),r`: one bus write at HL (R162). -/
theorem State.load_indHl (s : State) {src : Operand8} (reg : src ≠ .indHl) :
    s.load .indHl src = s.busWrite s.hl (s.operand src) := by
  rw [State.load, s.touchOperand_of_ne reg]
  rfl

/-- Settles O17: each form is one bus write, which leaves the cycle counter, and the stepping forms
then set HL. -/
theorem byteStores : Obligations.ByteStores := by
  intro s src d8 a8 a16
  have stored : ∀ (x : Word) (v : Byte), (s.busWrite x v).cycles = s.cycles := s.busWrite_cycles
  rw [← highPage_eq, ← highPage_eq]
  refine ⟨fun reg => ?_, exec_timed rfl rfl (stored _ _), exec_timed rfl rfl (stored _ _),
    exec_timed rfl rfl (stored _ _), exec_timed rfl rfl (stored _ _),
    exec_timed rfl rfl (stored _ _), exec_timed rfl rfl (stored _ _),
    exec_timed (t := (s.busWrite s.hl s.a).setHl (s.hl + 1)) rfl rfl (stored _ _),
    exec_timed (t := (s.busWrite s.hl s.a).setHl (s.hl - 1)) rfl rfl (stored _ _)⟩
  rw [exec_ld _ _ (fun h => reg h.2), s.load_indHl reg, State.addCycles, stored]
  rfl

/-- Settles O18: each form is one bus read into A, which leaves the cycle counter, and the stepping
forms then set HL. -/
theorem loadAccumulator : Obligations.LoadAccumulator := by
  intro s a16 a8
  have loaded : ∀ x : Word, (s.loadA x).cycles = s.cycles := s.loadA_cycles
  rw [← highPage_eq, ← highPage_eq]
  exact ⟨exec_timed (t := s.loadA s.bc) rfl rfl (loaded _),
    exec_timed (t := s.loadA s.de) rfl rfl (loaded _),
    exec_timed (t := s.loadA a16) rfl rfl (loaded _),
    exec_timed (t := s.loadA (highPage a8)) rfl rfl (loaded _),
    exec_timed (t := s.loadA (highPage s.c)) rfl rfl (loaded _),
    exec_timed (t := (s.loadA s.hl).setHl (s.hl + 1)) rfl rfl (loaded _),
    exec_timed (t := (s.loadA s.hl).setHl (s.hl - 1)) rfl rfl (loaded _)⟩

end Sys2Proof.Machine
end

section
/-!
PROOFS. The 16-bit loads (R190 to R193), SP plus a displacement (R193, R253), and the stack
instructions (R194 to R197).
-/

namespace Sys2Proof.Machine

/-! ### SP plus a displacement -/

/-- The flags of SP plus a displacement: Z and N clear, H and C the carries of the low
bytes' unsigned sum (R193, R253). -/
theorem flagsAre_addSpOffset (sp : Word) (e : Byte) :
    FlagsAre (addSpOffset sp e).flags false false
      (decide (sp.toNat % 16 + e.toNat % 16 > 0x0F)) (decide (sp.toNat % 256 + e.toNat > 0xFF)) :=
  flagsAre_packFlags _ _ _ _

/-- Settles O20: both forms take the value and the flags of `addSpOffset`, one into HL, the other
into SP. -/
theorem spPlusDisplacement : Obligations.SpPlusDisplacement := by
  intro s e8
  have flags := flagsAre_addSpOffset s.sp e8
  have toHl := exec_timed (i := .ldHlSpE8 e8) (n := 12) (s := s)
    (t := { s.setHl (addSpOffset s.sp e8).value with f := (addSpOffset s.sp e8).flags })
    rfl rfl rfl
  have toSp := exec_timed (i := .addSpE8 e8) (n := 16) (s := s)
    (t := { s with sp := (addSpOffset s.sp e8).value, f := (addSpOffset s.sp e8).flags })
    rfl rfl rfl
  exact ⟨⟨_, toHl, flags, rfl⟩, ⟨_, toSp, flags, rfl⟩⟩

/-! ### The word loads -/

/-- Settles O19: each form leaves the cycle counter until its own cycles are added; only
`LD (a16),SP` goes through the bus. -/
theorem wordLoads : Obligations.WordLoads := by
  intro s d16
  exact ⟨exec_ldImm16 .bc d16 s, exec_ldImm16 .de d16 s, exec_ldImm16 .hl d16 s,
    exec_ldImm16 .sp d16 s, exec_timed rfl rfl (s.busWrite16_cycles d16 s.sp),
    exec_timed (t := { s with sp := s.hl }) rfl rfl rfl⟩

/-! ### Push and pop -/

/-- `PUSH`: two bus writes, the high byte's first, and SP (R194, R196). -/
theorem exec_push_writes (r : Reg16Stk) (s : State) :
    exec (pushOf r) s = .next
      { (s.busWrite (s.sp - 1) (hiByte (s.reg16Stk r))).busWrite (s.sp - 2)
          (loByte (s.reg16Stk r)) with
        sp := s.sp - 2, cycles := s.cycles + s.time (pushOf r) 16 } := by
  rw [exec_push, State.addCycles, State.push16_cycles, State.push16_eq]

/-- A word given by its two bytes, written to a pair of the stack table, goes to the pair's
registers byte by byte (R126). -/
theorem State.setReg16Stk_mkWord (s : State) (hi lo : Byte) :
    s.setReg16Stk .bc (mkWord hi lo) = { s with b := hi, c := lo } ∧
    s.setReg16Stk .de (mkWord hi lo) = { s with d := hi, e := lo } ∧
    s.setReg16Stk .hl (mkWord hi lo) = { s with h := hi, l := lo } ∧
    s.setReg16Stk .af (mkWord hi lo) = { s with a := hi, f := lo } := by
  simp only [State.setReg16Stk, State.setBc, State.setDe, State.setHl, State.setAf, hiByte_mkWord,
    loByte_mkWord, and_self]

/-- `POP`: the pair loaded from two bus reads, and SP (R195, R197). -/
theorem exec_pop_reads (r : Reg16Stk) (s : State) :
    exec (popOf r) s = .next
      (({ (s.busTouch s.sp).busTouch (s.sp + 1) with
          sp := s.sp + 2, cycles := s.cycles + s.time (popOf r) 12 } : State).setReg16Stk r
        (mkWord ((s.busTouch s.sp).busRead (s.sp + 1)) (s.busRead s.sp))) := by
  rw [exec_pop, State.addCycles, State.setReg16Stk_cycles, State.popped_cycles, State.popped_eq,
    State.popValue_eq]
  cases r <;> rfl

/-- Settles O21: a push is two bus writes, and each pop loads the bytes the two bus reads gave. -/
theorem pushAndPop : Obligations.PushAndPop := by
  intro s r
  refine ⟨exec_push_writes r s, ?_, ?_, ?_, ?_⟩
  all_goals simp only [exec_pop_reads, State.setReg16Stk_mkWord]

end Sys2Proof.Machine
end

section
/-!
PROOFS. 8-bit arithmetic and logic (R211 to R237): what the operations on A leave in A and F, INC and
DEC of an operand, the decimal adjust, and decimal addition and subtraction by it.
-/

namespace Sys2Proof.Machine

/-! ### A and F written -/

/-- From `s` to `t`, with `n` cycles: A is `a`, F is `f`, and nothing else has changed. -/
def AccumulatorBecomes (s t : State) (a f : Byte) (n : Nat) : Prop :=
  t.a = a ∧ t.f = f ∧ AccumulatorOnly s t n

/-- An instruction that writes A and F and adds the entry of its row. -/
theorem exec_accumulator {i : Instr} {n : Nat} {s : State} {a f : Byte} (rule : defaultTime i = n)
    (run : exec i s = .next ({ s with a := a, f := f }.addCycles (s.cyclesOf i))) :
    ∃ t, exec i s = .next t ∧ AccumulatorBecomes s t a f (s.time i n) :=
  ⟨_, exec_timed rule run rfl, rfl, rfl, rfl⟩

/-- What A holds after an operation on it: `CP` drops the result (R226, R227). -/
def aluKept (op : AluOp) (a v f : Byte) : Byte := if op = .cp then a else (aluResult op a v f).value

/-- An operation on A with an operand of table `x[]` (R211 to R227). -/
theorem exec_alu_accumulator (op : AluOp) (x : Operand8) (s : State) :
    ∃ t, exec (aluOf op x) s = .next t ∧
      AccumulatorBecomes s t (aluKept op s.a (s.operand x) s.f)
        (aluResult op s.a (s.operand x) s.f).flags
        (s.time (aluOf op x) (if x = .indHl then 8 else 4)) := by
  have read := s.touchOperand_frame x
  refine ⟨_, exec_alu op x s, ?_, ?_, accumulatorOnly_alu s op x _⟩
  · rw [State.addCycles_a, State.alu, State.aluWith, read.a, read.f, aluKept]
  · rw [State.addCycles_f, State.alu, State.aluWith, read.a, read.f]

/-- An operation on A with an immediate (R211 to R227). -/
theorem exec_aluImm_accumulator (op : AluOp) (d8 : Byte) (s : State) :
    ∃ t, exec (aluImmOf op d8) s = .next t ∧
      AccumulatorBecomes s t (aluKept op s.a d8 s.f) (aluResult op s.a d8 s.f).flags
        (s.time (aluImmOf op d8) 8) :=
  ⟨_, exec_aluImm op d8 s, rfl, rfl, rfl⟩

/-! ### Addition -/

/-- `add8` written to A, in naturals, the carry in taking part in both carries (R236, R237). -/
theorem AccumulatorBecomes.added {s t : State} {v : Byte} {c : Bool} {n : Nat}
    (h : AccumulatorBecomes s t (add8 s.a v c).value (add8 s.a v c).flags n) :
    t.a = BitVec.ofNat 8 (s.a.toNat + v.toNat + c.toNat) ∧
      FlagsAre t.f (decide (t.a = 0)) false
        (decide (s.a.toNat % 16 + v.toNat % 16 + c.toNat > 15))
        (decide (s.a.toNat + v.toNat + c.toNat > 255)) ∧ AccumulatorOnly s t n := by
  obtain ⟨a, f, only⟩ := h
  refine ⟨a, ?_, only⟩
  rw [f, a]
  exact flagsAre_packFlags _ _ _ _

/-- Settles O23: every form writes `add8` to A and F, `ADC` with the carry flag as carry in. -/
theorem addForms : Obligations.AddForms := by
  intro s x d8
  exact ⟨(exec_alu_accumulator .add x s).imp fun _ h => ⟨h.1, h.2.added⟩,
    (exec_aluImm_accumulator .add d8 s).imp fun _ h => ⟨h.1, h.2.added⟩,
    (exec_alu_accumulator .adc x s).imp fun _ h => ⟨h.1, h.2.added⟩,
    (exec_aluImm_accumulator .adc d8 s).imp fun _ h => ⟨h.1, h.2.added⟩⟩

/-! ### Subtraction -/

/-- The difference of `sub8`, computed in integers, is the wrapped one (R237). -/
theorem sub8_value (a v : Byte) (c : Bool) :
    (sub8 a v c).value = a - v - BitVec.ofNat 8 c.toNat := by
  have carry := c.toNat_lt
  apply BitVec.eq_of_toNat_eq
  simp only [sub8, BitVec.toNat_ofInt, BitVec.toNat_sub, BitVec.toNat_ofNat]
  omega

/-- The difference of `sub8` is zero where A is the wrapped subtrahend. -/
theorem sub8_value_eq_zero_iff (a v : Byte) (c : Bool) :
    (sub8 a v c).value = 0 ↔ a.toNat = (v.toNat + c.toNat) % 256 := by
  have carry := c.toNat_lt
  rw [← BitVec.toNat_inj]
  simp only [sub8, BitVec.toNat_ofInt, BitVec.ofNat_eq_ofNat, BitVec.toNat_ofNat]
  omega

/-- The flags of `sub8`: Z of the wrapped difference, H and C as borrows (R236, R237). -/
theorem flagsAre_sub8 (a v : Byte) (c : Bool) :
    FlagsAre (sub8 a v c).flags (decide (a.toNat = (v.toNat + c.toNat) % 256)) true
      (decide (a.toNat % 16 < v.toNat % 16 + c.toNat)) (decide (a.toNat < v.toNat + c.toNat)) := by
  have zero := sub8_value_eq_zero_iff a v c
  have half : ((a.toNat % 16 : Nat) : Int) - (v.toNat % 16 : Nat) - c.toNat < 0 ↔
      a.toNat % 16 < v.toNat % 16 + c.toNat := by omega
  have borrow : (a.toNat : Int) - v.toNat - c.toNat < 0 ↔ a.toNat < v.toNat + c.toNat := by omega
  rw [← decide_eq_decide.mpr zero, ← decide_eq_decide.mpr half, ← decide_eq_decide.mpr borrow]
  exact flagsAre_packFlags _ _ _ _

/-- `sub8` written to F, with A as given (R216 to R219, R226, R227). -/
theorem AccumulatorBecomes.subtracted {s t : State} {a v : Byte} {c : Bool} {n : Nat}
    (h : AccumulatorBecomes s t a (sub8 s.a v c).flags n) :
    t.a = a ∧
      FlagsAre t.f (decide (s.a.toNat = (v.toNat + c.toNat) % 256)) true
        (decide (s.a.toNat % 16 < v.toNat % 16 + c.toNat))
        (decide (s.a.toNat < v.toNat + c.toNat)) ∧ AccumulatorOnly s t n := by
  obtain ⟨a, f, only⟩ := h
  exact ⟨a, f ▸ flagsAre_sub8 _ _ _, only⟩

/-- `sub8` written to A and F: A is the wrapped difference (R216 to R219). -/
theorem AccumulatorBecomes.difference {s t : State} {v : Byte} {c : Bool} {n : Nat}
    (h : AccumulatorBecomes s t (sub8 s.a v c).value (sub8 s.a v c).flags n) :
    t.a = s.a - v - BitVec.ofNat 8 c.toNat ∧
      FlagsAre t.f (decide (s.a.toNat = (v.toNat + c.toNat) % 256)) true
        (decide (s.a.toNat % 16 < v.toNat % 16 + c.toNat))
        (decide (s.a.toNat < v.toNat + c.toNat)) ∧ AccumulatorOnly s t n := by
  rw [sub8_value] at h
  exact h.subtracted

/-- Settles O24: every form writes the flags of `sub8` to F, and all but `CP` its value to A. -/
theorem subtractForms : Obligations.SubtractForms := by
  intro s x d8
  exact ⟨(exec_alu_accumulator .sub x s).imp fun _ h => ⟨h.1, h.2.difference⟩,
    (exec_aluImm_accumulator .sub d8 s).imp fun _ h => ⟨h.1, h.2.difference⟩,
    (exec_alu_accumulator .sbc x s).imp fun _ h => ⟨h.1, h.2.difference⟩,
    (exec_aluImm_accumulator .sbc d8 s).imp fun _ h => ⟨h.1, h.2.difference⟩,
    (exec_alu_accumulator .cp x s).imp fun _ h => ⟨h.1, h.2.subtracted⟩,
    (exec_aluImm_accumulator .cp d8 s).imp fun _ h => ⟨h.1, h.2.subtracted⟩⟩

/-! ### Logic -/

/-- The three logic operations on one bit. -/
def logicBit (op : AluOp) (p q : Bool) : Bool :=
  if op = .and then p && q else if op = .xor then Bool.xor p q else p || q

/-- A logic operation in A and F: bit by bit, with Z from the result and H for `AND` alone (R220 to
R225). -/
theorem AccumulatorBecomes.logic {s t : State} {op : AluOp} {v : Byte} {n : Nat}
    (logical : op = .and ∨ op = .xor ∨ op = .or)
    (h : AccumulatorBecomes s t (aluKept op s.a v s.f) (aluResult op s.a v s.f).flags n) :
    (∀ k, k < 8 → t.a.getLsbD k = logicBit op (s.a.getLsbD k) (v.getLsbD k)) ∧
      FlagsAre t.f (decide (t.a = 0)) false (decide (op = .and)) false ∧
      AccumulatorOnly s t n := by
  obtain ⟨a, f, only⟩ := h
  rw [a, f]
  rcases logical with rfl | rfl | rfl
  · exact ⟨fun _ _ => BitVec.getLsbD_and, flagsAre_packFlags _ _ _ _, only⟩
  · exact ⟨fun _ _ => BitVec.getLsbD_xor, flagsAre_packFlags _ _ _ _, only⟩
  · exact ⟨fun _ _ => BitVec.getLsbD_or, flagsAre_packFlags _ _ _ _, only⟩

/-- Settles O25: both forms write the operation's result and flags to A and F. -/
theorem logicForms : Obligations.LogicForms := by
  intro s op x d8 logical
  exact ⟨(exec_alu_accumulator op x s).imp fun _ h => ⟨h.1, h.2.logic logical⟩,
    (exec_aluImm_accumulator op d8 s).imp fun _ h => ⟨h.1, h.2.logic logical⟩⟩

/-! ### Increment and decrement -/

/-- The low nibble as a number. -/
theorem toNat_lowNibble (v : Byte) : (v &&& 0x0F).toNat = v.toNat % 16 := by
  rw [BitVec.toNat_and]
  exact Nat.and_two_pow_sub_one_eq_mod v.toNat 4

/-- `inc8` in naturals (R228). -/
theorem inc8_value (v f : Byte) : (inc8 v f).value = BitVec.ofNat 8 (v.toNat + 1) := by
  simp only [inc8, BitVec.ofNat_add, BitVec.ofNat_toNat, BitVec.setWidth_eq]
  rfl

/-- `dec8` in naturals (R230). -/
theorem dec8_value (v f : Byte) : (dec8 v f).value = BitVec.ofNat 8 (v.toNat + 255) := by
  simp only [dec8, BitVec.ofNat_add, BitVec.ofNat_toNat, BitVec.setWidth_eq, BitVec.sub_eq_add_neg]
  rfl

/-- The flags of `inc8`: Z after 0xFF, H after a low nibble of 0xF, C kept (R228). -/
theorem flagsAre_inc8 (v f : Byte) :
    FlagsAre (inc8 v f).flags (decide (v.toNat = 255)) false (decide (v.toNat % 16 = 15))
      (f.getLsbD 4) := by
  have zero : v + 1 = 0 ↔ v.toNat = 255 := by bv_omega
  have half : v &&& 0x0F = 0x0F ↔ v.toNat % 16 = 15 := by
    rw [← toNat_lowNibble, ← BitVec.toNat_inj]
    rfl
  rw [← decide_eq_decide.mpr zero, ← decide_eq_decide.mpr half]
  exact flagsAre_packFlags _ _ _ _

/-- The flags of `dec8`: Z after 0x01, H after a low nibble of 0, C kept (R230). -/
theorem flagsAre_dec8 (v f : Byte) :
    FlagsAre (dec8 v f).flags (decide (v.toNat = 1)) true (decide (v.toNat % 16 = 0))
      (f.getLsbD 4) := by
  have zero : v - 1 = 0 ↔ v.toNat = 1 := by bv_omega
  have half : v &&& 0x0F = 0 ↔ v.toNat % 16 = 0 := by
    rw [← toNat_lowNibble, ← BitVec.toNat_inj]
    rfl
  rw [← decide_eq_decide.mpr zero, ← decide_eq_decide.mpr half]
  exact flagsAre_packFlags _ _ _ _

/-- Settles O26: both write back `inc8` or `dec8` of the operand, with its flags. -/
theorem incDecByte : Obligations.IncDecByte := by
  intro s x
  refine ⟨⟨_, exec_inc x s, ?_, ?_⟩, ⟨_, exec_dec x s, ?_, ?_⟩⟩
  · exact inc8_value _ s.f ▸ operandBecomes_modify s x _ _
  · rw [State.addCycles_f, State.inc, State.modify_f]
    exact flagsAre_inc8 _ _
  · exact dec8_value _ s.f ▸ operandBecomes_modify s x _ _
  · rw [State.addCycles_f, State.dec, State.modify_f]
    exact flagsAre_dec8 _ _

/-! ### Decimal adjust -/

/-- Does `DAA` correct the low digit (R232)? -/
def daaLow (a f : Byte) : Bool :=
  decide (f.getLsbD 5 = true ∨ (f.getLsbD 6 = false ∧ a.toNat % 16 > 9))

/-- Does `DAA` correct the high digit (R232)? -/
def daaHigh (a f : Byte) : Bool :=
  decide (f.getLsbD 4 = true ∨ (f.getLsbD 6 = false ∧ a.toNat > 0x99))

/-- The correction byte as a number (R232). -/
def daaCorrection (a f : Byte) : Nat :=
  (if daaLow a f then 0x06 else 0) + (if daaHigh a f then 0x60 else 0)

theorem daaLow_eq (a f : Byte) :
    (flagH f || (!flagN f && (a &&& 0x0F).toNat > 0x09)) = daaLow a f := by
  rw [toNat_lowNibble]
  simp [daaLow, flagH, flagN]

theorem daaHigh_eq (a f : Byte) : (flagC f || (!flagN f && a.toNat > 0x99)) = daaHigh a f := by
  simp [daaHigh, flagC, flagN]

/-- `DAA` adds or subtracts the correction, by N (R232). -/
theorem daa_value (a f : Byte) :
    (daa a f).value = if f.getLsbD 6 then a - BitVec.ofNat 8 (daaCorrection a f)
      else a + BitVec.ofNat 8 (daaCorrection a f) := by
  have correction : ∀ low high : Bool,
      ((if low then 0x06 else 0) ||| (if high then 0x60 else 0) : Byte) =
        BitVec.ofNat 8 ((if low then 0x06 else 0) + (if high then 0x60 else 0)) := by decide
  simp only [daa, daaLow_eq, daaHigh_eq, correction]
  rfl

/-- The flags after `DAA`: C is the test of the high digit (R232). -/
theorem flagsAre_daa (a f : Byte) :
    FlagsAre (daa a f).flags (decide ((daa a f).value = 0)) (f.getLsbD 6) false (daaHigh a f) := by
  rw [← daaHigh_eq]
  exact flagsAre_packFlags _ _ _ _

theorem daa_carry (a f : Byte) : (daa a f).flags.getLsbD 4 = daaHigh a f :=
  (packFlags_c _ _ _ _).trans (daaHigh_eq a f)

/-- `DAA` writes A and F (R232). -/
theorem exec_daa (s : State) :
    ∃ t, exec .daa s = .next t ∧
      AccumulatorBecomes s t (daa s.a s.f).value (daa s.a s.f).flags (s.time .daa 4) :=
  exec_accumulator rfl rfl

/-! ### The other operations on A and F -/

/-- `CPL` inverts every bit of A (R233). -/
theorem cpl_getLsbD (a f : Byte) {k : Nat} (hk : k < 8) :
    (cpl a f).value.getLsbD k = !a.getLsbD k := by
  have ones : (0xFF : Byte).getLsbD k = true := BitVec.getLsbD_allOnes.trans (decide_eq_true hk)
  rw [cpl, BitVec.getLsbD_xor, ones, Bool.xor_true]

/-- Settles O27: `DAA` and `CPL` write A and F, `SCF` and `CCF` F alone. -/
theorem accumulatorAdjust : Obligations.AccumulatorAdjust := by
  intro s
  refine ⟨?_, ?_, ?_, ?_⟩
  · obtain ⟨t, run, a, f, only⟩ := exec_daa s
    have flags := flagsAre_daa s.a s.f
    rw [← a, ← f] at flags
    exact ⟨t, run, a.trans (daa_value _ _), flags, only⟩
  · obtain ⟨t, run, a, f, only⟩ := exec_accumulator (i := .cpl) (n := 4) (s := s) rfl rfl
    exact ⟨t, run, fun k hk => a ▸ cpl_getLsbD _ _ hk, f ▸ flagsAre_packFlags _ _ _ _, only⟩
  · obtain ⟨t, run, a, f, only⟩ := exec_accumulator (i := .scf) (n := 4) (s := s) rfl rfl
    exact ⟨t, run, a, f ▸ flagsAre_packFlags _ _ _ _, only⟩
  · obtain ⟨t, run, a, f, only⟩ := exec_accumulator (i := .ccf) (n := 4) (s := s) rfl rfl
    exact ⟨t, run, a, f ▸ flagsAre_packFlags _ _ _ _, only⟩

/-! ### Decimal arithmetic -/

theorem toNat_bcd {n : Nat} (h : n < 100) : (bcd n).toNat = 16 * (n / 10) + n % 10 := by
  rw [bcd, BitVec.toNat_ofNat]
  omega

/-- `DAA` after a sum of decimal digits: a digit above 9 is corrected into the next (R232). -/
theorem daa_of_decimal_sum {a f : Byte} {m n : Nat} (hm : m < 100) (hn : n < 100)
    (value : a = BitVec.ofNat 8 ((bcd m).toNat + (bcd n).toNat)) (add : f.getLsbD 6 = false)
    (half : f.getLsbD 5 = decide ((bcd m).toNat % 16 + (bcd n).toNat % 16 > 15))
    (carry : f.getLsbD 4 = decide ((bcd m).toNat + (bcd n).toNat > 255)) :
    (daa a f).value = bcd ((m + n) % 100) ∧
      (daa a f).flags.getLsbD 4 = decide (100 ≤ m + n) := by
  have sum : a.toNat = ((bcd m).toNat + (bcd n).toNat) % 256 := by rw [value, BitVec.toNat_ofNat]
  have low : daaLow a f = decide (10 ≤ m % 10 + n % 10) := by
    simp only [daaLow, add, half, sum, decide_eq_true_eq, true_and, decide_eq_decide]
    rw [toNat_bcd hm, toNat_bcd hn]
    omega
  have high : daaHigh a f = decide (100 ≤ m + n) := by
    have wrapped : (bcd m).toNat + (bcd n).toNat > 255 ∨ a.toNat > 0x99 ↔
        (bcd m).toNat + (bcd n).toNat > 0x99 := by omega
    simp only [daaHigh, add, carry, decide_eq_true_eq, true_and, wrapped, decide_eq_decide]
    rw [toNat_bcd hm, toNat_bcd hn]
    omega
  refine ⟨BitVec.eq_of_toNat_eq ?_, (daa_carry a f).trans high⟩
  simp only [daa_value, daaCorrection, low, high, add, Bool.false_eq_true, if_false,
    decide_eq_true_eq, BitVec.toNat_add, BitVec.toNat_ofNat, sum]
  rw [toNat_bcd hm, toNat_bcd hn, toNat_bcd (Nat.mod_lt _ (by decide))]
  split <;> split <;> omega

/-- `DAA` after a difference of decimal digits: a digit that borrowed is corrected (R232). -/
theorem daa_of_decimal_difference {a f : Byte} {m n : Nat} (hm : m < 100) (hn : n < 100)
    (value : a = bcd m - bcd n) (sub : f.getLsbD 6 = true)
    (half : f.getLsbD 5 = decide ((bcd m).toNat % 16 < (bcd n).toNat % 16))
    (borrow : f.getLsbD 4 = decide ((bcd m).toNat < (bcd n).toNat)) :
    (daa a f).value = bcd ((100 + m - n) % 100) ∧
      (daa a f).flags.getLsbD 4 = decide (m < n) := by
  have difference : a.toNat = (256 - (bcd n).toNat + (bcd m).toNat) % 256 := by
    rw [value, BitVec.toNat_sub]
  have low : daaLow a f = decide (m % 10 < n % 10) := by
    simp only [daaLow, sub, half, decide_eq_true_eq, Bool.true_eq_false, false_and, or_false,
      decide_eq_decide]
    rw [toNat_bcd hm, toNat_bcd hn]
    omega
  have high : daaHigh a f = decide (m < n) := by
    simp only [daaHigh, sub, borrow, decide_eq_true_eq, Bool.true_eq_false, false_and, or_false,
      decide_eq_decide]
    rw [toNat_bcd hm, toNat_bcd hn]
    omega
  refine ⟨BitVec.eq_of_toNat_eq ?_, (daa_carry a f).trans high⟩
  simp only [daa_value, daaCorrection, low, high, sub, if_true, decide_eq_true_eq,
    BitVec.toNat_sub, BitVec.toNat_ofNat, difference]
  rw [toNat_bcd hm, toNat_bcd hn, toNat_bcd (Nat.mod_lt _ (by decide))]
  split <;> split <;> omega

/-- Settles O28: `DAA` on what `addForms` and `subtractForms` say `ADD` and `SUB` leave. -/
theorem decimalArithmetic : Obligations.DecimalArithmetic := by
  intro s m n hm hn digits
  constructor
  · obtain ⟨t, runAdd, sum, ⟨-, add, half, carry, -⟩, -⟩ := (addForms s .a (bcd n)).2.1
    obtain ⟨u, runDaa, a, f, -⟩ := exec_daa t
    rw [digits] at sum half carry
    obtain ⟨value, carryOut⟩ := daa_of_decimal_sum hm hn sum add half carry
    exact ⟨t, u, runAdd, runDaa, a.trans value, f ▸ carryOut⟩
  · obtain ⟨t, runSub, difference, ⟨-, sub, half, borrow, -⟩, -⟩ :=
      (subtractForms s .a (bcd n)).2.1
    obtain ⟨u, runDaa, a, f, -⟩ := exec_daa t
    rw [digits] at difference half borrow
    obtain ⟨value, borrowOut⟩ :=
      daa_of_decimal_difference hm hn (difference.trans (BitVec.sub_zero _)) sub half borrow
    exact ⟨t, u, runSub, runDaa, a.trans value, f ▸ borrowOut⟩

end Sys2Proof.Machine
end

section
/-!
PROOFS. 16-bit arithmetic (R250 to R252): `ADD HL,rr`, and INC and DEC of a pair of the table `r16`.
-/

namespace Sys2Proof.Machine

/-! ### A pair written -/

theorem State.reg16_addCycles (s : State) (n : Nat) (r : Reg16) :
    (s.addCycles n).reg16 r = s.reg16 r := by
  cases r <;> rfl

theorem State.reg16_setReg16 (s : State) (r : Reg16) (v : Word) : (s.setReg16 r v).reg16 r = v := by
  cases r
  case sp => rfl
  all_goals exact mkWord_bytes v

theorem State.reg16_setReg16_of_ne (s : State) {q r : Reg16} (ne : q ≠ r) (v : Word) :
    (s.setReg16 r v).reg16 q = s.reg16 q := by
  cases q <;> cases r
  case bc.bc | de.de | hl.hl | sp.sp => contradiction
  all_goals rfl

/-- From `s` to `t`, with `n` cycles: the pair `r` is `v`, and nothing else has changed. -/
def PairBecomes (s t : State) (r : Reg16) (v : Word) (n : Nat) : Prop :=
  t.reg16 r = v ∧ (∀ q, q ≠ r → t.reg16 q = s.reg16 q) ∧
  t = { s with b := t.b, c := t.c, d := t.d, e := t.e, h := t.h, l := t.l, sp := t.sp
               cycles := s.cycles + n }

theorem pairBecomes_setReg16 (s : State) (r : Reg16) (v : Word) (n : Nat) :
    PairBecomes s ((s.setReg16 r v).addCycles n) r v n := by
  refine ⟨?_, fun q ne => ?_, ?_⟩
  · rw [State.reg16_addCycles, State.reg16_setReg16]
  · rw [State.reg16_addCycles, State.reg16_setReg16_of_ne s ne]
  · cases r <;> rfl

/-! ### The values and the flags -/

/-- `INC` of a word in naturals (R251). -/
theorem word_add_one (v : Word) : v + 1 = BitVec.ofNat 16 (v.toNat + 1) :=
  BitVec.add_def v 1

/-- `DEC` of a word in naturals: it wraps as the addition of 0xFFFF does (R252). -/
theorem word_sub_one (v : Word) : v - 1 = BitVec.ofNat 16 (v.toNat + 65535) := by
  rw [BitVec.sub_eq_add_neg]
  exact BitVec.add_def v (-1)

/-- `addHl` in naturals (R250). -/
theorem addHl_value (hl v : Word) (f : Byte) :
    (addHl hl v f).value = BitVec.ofNat 16 (hl.toNat + v.toNat) :=
  BitVec.add_def hl v

/-- The flags of `addHl`: Z kept, N clear, H and C the carries out of bits 11 and 15 (R250). -/
theorem flagsAre_addHl (hl v : Word) (f : Byte) :
    FlagsAre (addHl hl v f).flags (f.getLsbD 7) false
      (decide (hl.toNat % 4096 + v.toNat % 4096 > 0x0FFF)) (decide (hl.toNat + v.toNat > 0xFFFF)) :=
  flagsAre_packFlags _ _ _ _

/-- Settles O29: `ADD HL,rr` takes the value and the flags of `addHl`; INC and DEC write their pair
and nothing else. -/
theorem wordArithmetic : Obligations.WordArithmetic := by
  intro s r
  refine ⟨⟨_, exec_addHl r s, flagsAre_addHl s.hl (s.reg16 r) s.f, ?_⟩,
    ⟨_, exec_inc16 r s, ?_⟩, ⟨_, exec_dec16 r s, ?_⟩⟩
  · rw [← addHl_value s.hl (s.reg16 r) s.f]
    rfl
  · rw [← word_add_one]
    exact pairBecomes_setReg16 s r _ _
  · rw [← word_sub_one]
    exact pairBecomes_setReg16 s r _ _

end Sys2Proof.Machine
end

section
/-!
PROOFS. The table behind the prefix (R260, R336), and the rotates, shifts and bit operations (R261
to R275): the results bit by bit, and what the instructions leave.
-/

namespace Sys2Proof.Machine

/-! ### The prefix -/

/-- The two-byte instruction of a row of the second table is the row's execute part, by the three
fields of the row (R123, R260). -/
theorem exec_decodeCb (row : Byte) (s : State) :
    exec (decodeCb row) s = .next (s.cbExecute row) := by
  obtain ⟨x, hx, y, hy, z, hz, rfl⟩ := Proofs.Encoding.exists_opByte row
  obtain ⟨field_x, field_y, field_z⟩ := Proofs.Encoding.fields_opByte hx hy hz
  simp only [decodeCb, State.cbExecute, field_x, field_y, field_z]
  interval_cases x
  all_goals interval_cases y <;> interval_cases z <;> rfl

/-- Settles O5: `exec` of the prefix entry is the execute part of the row of the core's map. -/
theorem prefixRunsSecondTable : Obligations.PrefixRunsSecondTable := by
  intro cb s
  exact ⟨s.cbExecute (s.cfg.cbRow cb), rfl, exec_decodeCb _ s⟩

/-! ### Rotates and shifts -/

section
variable (v : Byte) (e : BitVec 1) {k : Nat} (hk : k < 8)
include hk

/-- A byte moved left by one, with the bit `e` moved in. -/
theorem getLsbD_movedLeft :
    (v.extractLsb' 0 7 ++ e).getLsbD k = if k = 0 then e.getLsbD 0 else v.getLsbD (k - 1) := by
  simp only [BitVec.getLsbD_append, BitVec.getLsbD_extractLsb']
  split
  · next low => rw [if_pos (by omega), show k = 0 by omega]
  · next high => rw [if_neg (by omega), decide_eq_true (by omega), Bool.true_and, Nat.zero_add]

/-- A byte moved right by one, with the bit `e` moved in. -/
theorem getLsbD_movedRight :
    (e ++ v.extractLsb' 1 7).getLsbD k = if k = 7 then e.getLsbD 0 else v.getLsbD (k + 1) := by
  simp only [BitVec.getLsbD_append, BitVec.getLsbD_extractLsb']
  split
  · next low => rw [if_neg (by omega), decide_eq_true (by omega), Bool.true_and, Nat.add_comm]
  · next high => rw [if_pos (by omega), show k - 7 = 0 by omega]

/-- A byte with its nibbles exchanged. -/
theorem getLsbD_swapped :
    (v.extractLsb' 0 4 ++ v.extractLsb' 4 4).getLsbD k = v.getLsbD ((k + 4) % 8) := by
  simp only [BitVec.getLsbD_append, BitVec.getLsbD_extractLsb']
  split
  · next low => rw [decide_eq_true low, Bool.true_and, Nat.mod_eq_of_lt (by omega), Nat.add_comm]
  · next high =>
    rw [decide_eq_true (by omega), Bool.true_and, show 0 + (k - 4) = (k + 4) % 8 by omega]

/-- The result of a rotate, shift or swap, bit by bit (R261 to R272). -/
theorem rotValue_getLsbD (op : RotOp) (c : Bool) :
    (rotValue op v c).getLsbD k = rotBit op v c k := by
  cases op
  case swap => exact getLsbD_swapped v hk
  case rlc | rl | sla => exact (getLsbD_movedLeft v _ hk).trans (by simp [rotBit])
  case rrc | rr | sra | srl => exact (getLsbD_movedRight v _ hk).trans (by simp [rotBit])

end

/-- The bit moved into C (R261 to R272). -/
theorem rotCarry_eq_rotOut (op : RotOp) (v : Byte) : rotCarry op v = rotOut op v := by
  cases op <;> rfl

/-- A one-byte rotate written to A and F: Z is clear whatever the result (R261 to R264). -/
theorem AccumulatorBecomes.rotated {s t : State} {op : RotOp} {n : Nat}
    (h : AccumulatorBecomes s t (rotAResult op s.a s.f).value (rotAResult op s.a s.f).flags n) :
    (∀ k, k < 8 → t.a.getLsbD k = rotBit op s.a (s.f.getLsbD 4) k) ∧
      FlagsAre t.f false false false (rotOut op s.a) ∧ AccumulatorOnly s t n := by
  obtain ⟨a, f, only⟩ := h
  rw [a, f, ← rotCarry_eq_rotOut]
  exact ⟨fun _ hk => rotValue_getLsbD s.a hk op _, flagsAre_packFlags _ _ _ _, only⟩

/-- Settles O30: each form writes its `rotAResult` to A and F. -/
theorem rotateAccumulator : Obligations.RotateAccumulator := by
  intro s
  refine ⟨?_, ?_, ?_, ?_⟩
  all_goals exact (exec_accumulator rfl rfl).imp fun _ h => ⟨h.1, h.2.rotated⟩

/-- Settles O31: the operand is read, changed and written back, with the flags of `rotResult`. -/
theorem rotatesAndShifts : Obligations.RotatesAndShifts := by
  intro s op x
  refine ⟨_, _, exec_rot op x s, fun _ hk => rotValue_getLsbD (s.operand x) hk op _,
    operandBecomes_modify s x (rotResult op (s.operand x) s.f) _, ?_⟩
  rw [State.addCycles_f, State.rot, State.modify_f, ← rotCarry_eq_rotOut]
  exact flagsAre_packFlags _ _ _ _

/-! ### Bit operations -/

/-- The mask of bit `b`. -/
theorem getLsbD_bitMask {b : Nat} (hb : b < 8) (k : Nat) :
    ((1 : Byte) <<< b).getLsbD k = decide (k = b) := by
  refine (BitVec.getLsbD_twoPow b k).trans ?_
  rw [decide_eq_true hb, Bool.true_and, decide_eq_decide]
  exact eq_comm

/-- `RES` clears one bit (R274). -/
theorem resBit_getLsbD (v : Byte) {b k : Nat} (hb : b < 8) (hk : k < 8) :
    (resBit b v).getLsbD k = if k = b then false else v.getLsbD k := by
  rw [resBit, BitVec.getLsbD_and, BitVec.getLsbD_not, getLsbD_bitMask hb, decide_eq_true hk]
  by_cases same : k = b <;> simp [same]

/-- `SET` sets one bit (R275). -/
theorem setBit_getLsbD (v : Byte) {b : Nat} (hb : b < 8) (k : Nat) :
    (setBit b v).getLsbD k = if k = b then true else v.getLsbD k := by
  rw [setBit, BitVec.getLsbD_or, getLsbD_bitMask hb]
  by_cases same : k = b <;> simp [same]

/-- `BIT` leaves A, and changes nothing but F (R273). -/
theorem accumulatorOnly_bitTest (s : State) (b : Nat) (x : Operand8) (n : Nat) :
    ((s.bitTest b x).addCycles n).a = s.a ∧ AccumulatorOnly s ((s.bitTest b x).addCycles n) n := by
  unfold AccumulatorOnly State.bitTest
  rw [(s.touchOperand_frame x).eq]
  exact ⟨rfl, rfl⟩

/-- Settles O32: `BIT` reads the operand and writes F, `RES` and `SET` read it and write it back. -/
theorem bitOperations : Obligations.BitOperations := by
  intro s b x hb
  exact ⟨⟨_, exec_bit hb x s, flagsAre_packFlags _ _ _ _, accumulatorOnly_bitTest s b x _⟩,
    ⟨_, _, exec_res hb x s, fun _ hk => resBit_getLsbD _ hb hk, operandBecomes_setOperand s x _ _⟩,
    ⟨_, _, exec_set hb x s, fun k _ => setBit_getLsbD _ hb k, operandBecomes_setOperand s x _ _⟩⟩

end Sys2Proof.Machine
end

section
/-!
PROOFS. The control transfers (R301 to R311): the operations on PC and the stack as records, and the
transfers that a condition guards.
-/

namespace Sys2Proof.Machine

/-! ### Conditional transfers -/

/-- The model's condition is the one of the statements (R127). -/
theorem State.cond_eq_holds (s : State) (cc : Cond) : s.cond cc = holds s cc := by
  cases cc <;> rfl

/-- A transfer to `t` that a condition guards: the cycle counter of `s` plus the cycles of the way it
takes, and nothing else where the condition fails (R302, R305, R307, R309). -/
theorem exec_guarded {i : Instr} {cc : Cond} {taken skipped : Nat} {s t : State}
    (run : exec i s = if s.cond cc then .next (t.addCycles (s.timeTaken i taken))
      else .next (s.addCycles (s.time i skipped)))
    (kept : t.cycles = s.cycles) :
    exec i s = .next (if holds s cc then { t with cycles := s.cycles + s.timeTaken i taken }
      else { s with cycles := s.cycles + s.time i skipped }) := by
  rw [run, s.cond_eq_holds cc]
  split
  · rw [State.addCycles, kept]
  · rfl

/-- Settles O33: the target is loaded by `jumpTo`, which leaves the cycle counter. -/
theorem absoluteJumps : Obligations.AbsoluteJumps := by
  intro s cc a16
  exact ⟨exec_timed (t := s.jumpTo a16) rfl rfl rfl, exec_guarded (exec_jpCc cc a16 s) rfl,
    exec_timed (t := s.jumpTo s.hl) rfl rfl rfl⟩

/-! ### Relative jumps -/

/-- PC plus a displacement, in integers (R304). -/
theorem add_sext16 (pc : Word) (e : Byte) :
    pc + sext16 e = BitVec.ofInt 16 ((pc.toNat : Int) + e.toInt) := by
  rw [BitVec.ofInt_add, BitVec.ofInt_natCast, BitVec.ofNat_toNat, BitVec.setWidth_eq]
  rfl

/-- A relative jump in integers: PC modulo 2^16, and the mark by the sum before it wraps (R23, R304). -/
theorem State.jumpRel_eq (s : State) (e : Byte) :
    s.jumpRel e = { s with
      pc := BitVec.ofInt 16 ((s.pc.toNat : Int) + e.toInt)
      pcOverflow := decide (s.cfg.pcOverflowPolicy = .fault ∧
        ((s.pc.toNat : Int) + e.toInt < 0 ∨ 0xFFFF < (s.pc.toNat : Int) + e.toInt)) } := by
  rw [State.jumpRel, add_sext16, jumpLeavesRange, Bool.decide_and, Bool.decide_or]

/-- Settles O34: both forms take `jumpRel`, which leaves the cycle counter. -/
theorem relativeJumps : Obligations.RelativeJumps := by
  intro s cc e8
  have always := exec_timed (i := .jrE8 e8) (n := 12) (t := s.jumpRel e8) rfl rfl rfl
  have guarded := exec_guarded (exec_jrCc cc e8 s) rfl
  rw [s.jumpRel_eq e8] at always guarded
  exact ⟨always, guarded⟩

/-! ### Calls and returns -/

/-- A call: PC pushed by two bus writes, then the target (R306, R311). -/
theorem State.call_eq (s : State) (target : Word) :
    s.call target = { (s.busWrite (s.sp - 1) (hiByte s.pc)).busWrite (s.sp - 2) (loByte s.pc) with
      sp := s.sp - 2, pc := target, pcOverflow := false } := by
  rw [State.call, State.push16_eq, State.jumpTo]

/-- A return: PC from two bus reads; IME is left to `RETI` (R308, R310). -/
theorem State.ret_eq (s : State) :
    s.ret = { (s.busTouch s.sp).busTouch (s.sp + 1) with
      pc := mkWord ((s.busTouch s.sp).busRead (s.sp + 1)) (s.busRead s.sp)
      sp := s.sp + 2, pcOverflow := false, ime := s.ime } := by
  have ime : ((s.busTouch s.sp).busTouch (s.sp + 1)).ime = s.ime := by
    rw [State.busTouch_ime, State.busTouch_ime]
  rw [State.ret, State.popped_eq, State.popValue_eq, State.jumpTo, ← ime]

/-- Settles O35: the calls take `call` and the returns `ret`, which leave the cycle counter. -/
theorem callsAndReturns : Obligations.CallsAndReturns := by
  intro s cc a16 y hy
  have call := exec_timed (i := .callA16 a16) (n := 24) rfl rfl (s.call_cycles a16)
  have callIf := exec_guarded (exec_callCc cc a16 s) (s.call_cycles a16)
  have rst := exec_rst hy s
  have ret := exec_timed (i := .ret) (n := 16) rfl rfl s.ret_cycles
  have retIf := exec_guarded (exec_retCc cc s) s.ret_cycles
  have reti := exec_timed (i := .reti) (n := 16) (t := s.returnFromInterrupt) rfl rfl s.ret_cycles
  rw [State.addCycles, State.call_cycles] at rst
  rw [State.returnFromInterrupt] at reti
  rw [s.call_eq] at call callIf rst
  rw [s.ret_eq] at ret retIf reti
  exact ⟨call, callIf, rst, ret, retIf, reti⟩

end Sys2Proof.Machine
end

section
/-!
PROOFS. The system instructions (R331 to R335, R337), and the delay of `EI` over the step that follows
it (R335, R364).
-/

namespace Sys2Proof.Machine

/-! ### System instructions -/

/-- Settles O36: each but `STOP` and the illegal opcodes writes control flags at most and adds its
row's cycles; `STOP` by its policies. -/
theorem systemInstructions : Obligations.SystemInstructions := by
  intro s pad op
  refine ⟨exec_timed (t := s) rfl rfl rfl,
    exec_timed (t := { s with halted := true }) rfl rfl rfl,
    exec_timed (t := { s with ime := false, pendingIE := false }) rfl rfl rfl,
    exec_timed (t := { s with pendingIE := true }) rfl rfl rfl, ?_, rfl⟩
  rw [State.time_eq (i := .stop pad) (n := 4) rfl]
  change execStop pad s = _
  unfold execStop
  cases s.cfg.stopPolicy <;> rfl

/-! ### The pending enable -/

/-- No interrupt is taken while an enable is pending (R361). -/
theorem State.takesInterrupt_of_pendingIE {s : State} (pending : s.pendingIE = true) :
    s.takesInterrupt = false := by
  rw [State.takesInterrupt, pending, Bool.not_true, Bool.and_false, Bool.false_and]

/-- Only `DI` drops an enable that is pending when an execute part begins (R29, R334). -/
theorem exec_keeps_pendingIE {i : Instr} {u v : State} (run : exec i u = .next v) (notDi : i ≠ .di)
    (pending : u.pendingIE = true) : v.pendingIE = true := by
  by_cases isEi : i = .ei
  · subst isEi
    cases run
    rfl
  · obtain ⟨-, -, enables, -, -⟩ := controlStateWriters i u v run
    exact (enables notDi isEi).trans pending

/-- The interrupt flags that an iteration running instruction `i` leaves, from those the execute part
leaves in `v`: an enable pending both before and after it is promoted (R364). -/
theorem step_interruptFlags {s u t : State} {i : Instr} (none : s.takesInterrupt = false)
    (awake : s.halted = false) (fetch : s.fetchInstr = .ok i u) (next : step s = .next t)
    (noFault : t.faulted = false) :
    ∃ v, exec i u = .next v ∧ t.ime = (v.ime || (s.pendingIE && v.pendingIE)) ∧
      t.pendingIE = (v.pendingIE && !(s.pendingIE && v.pendingIE)) := by
  obtain ⟨-, steps⟩ := step_cases next
  cases steps with
  | dispatch takes _ => rw [none] at takes; cases takes
  | tick _ halted _ => rw [awake] at halted; cases halted
  | fatal _ _ failed => rw [fetch] at failed; cases failed
  | instr _ _ j w v fetched run eq =>
    rw [fetch] at fetched
    cases fetched
    subst eq
    refine ⟨v, run, ?_⟩
    unfold State.settle at noFault ⊢
    split at noFault
    · next fatal => rw [fatal] at noFault; cases noFault
    · next quiet =>
      rw [if_neg quiet, State.feedSince, State.feedDevices_ime, State.feedDevices_pendingIE,
        State.finishInstr_eq]
      exact ⟨rfl, rfl⟩

/-- Settles O42: the flags after the step are those of `step_interruptFlags`, from what `EI`, `DI` and
every other execute part leave of the pending enable. -/
theorem enableDelay : Obligations.EnableDelay := by
  intro s u t i _ none awake fetch next noFault
  obtain ⟨v, run, ime, pendingIE⟩ := step_interruptFlags none awake fetch next noFault
  have frame := (State.fetchInstr_ok fetch).2.frame
  refine ⟨fun isEi quiet => ?_, fun pending notDi => ?_, fun isDi => ?_⟩
  · subst isEi
    cases run
    rw [quiet] at ime pendingIE
    exact ⟨ime.trans ((Bool.or_false _).trans frame.ime), pendingIE,
      State.takesInterrupt_of_pendingIE pendingIE⟩
  · have still := exec_keeps_pendingIE run notDi (frame.pendingIE.trans pending)
    rw [pending, still] at ime pendingIE
    exact ⟨ime.trans (Bool.or_true _), pendingIE⟩
  · subst isDi
    cases run
    exact ⟨ime.trans (Bool.and_false _), pendingIE⟩

end Sys2Proof.Machine
end

section
/-!
PROOFS. The core that goes round a `HALT` with interrupts off and a request pending (R363, R364, R541),
and the interrupt that is taken (R361, R362).
-/

namespace Sys2Proof.Machine

/-! ### Pending requests -/

theorem byte_eq_zero_of_bits {v : Byte} (h : ∀ i, v.getLsbD i = false) : v = 0 :=
  BitVec.eq_of_getLsbD_eq fun i _ => by rw [h i]; exact BitVec.getLsbD_zero.symm

/-- The devices take no request back: IF only gains bits, and no device writes IE (R440). -/
theorem DeviceFrame.pending_ne_zero {s t : State} (k : DeviceFrame s t) (ok : s.cfg.Ok)
    (request : s.pending ≠ 0) : t.pending ≠ 0 := by
  have enabled : t.peek ieAddr = s.peek ieAddr :=
    k.peek ieAddr (by decide) (by rcases ok with h | h | h <;> unfold ieAddr <;> omega)
  refine fun none => request (byte_eq_zero_of_bits fun i => ?_)
  have bit : t.pending.getLsbD i = false := by rw [none]; exact BitVec.getLsbD_zero
  simp only [State.pending, enabled, k.cfg, BitVec.getLsbD_and] at bit ⊢
  cases asked : (s.peek s.cfg.ifAddr.toNat).getLsbD i with
  | false => rfl
  | true => rwa [k.requests ok i asked] at bit

/-! ### The halt loop -/

section
variable {h : Word} {s t : State}

/-- What the loop rests on beside the place in it: the ROM, the interrupt state, and the request. -/
theorem HaltLoop.of_same (loop : HaltLoop h s) (live : t.Live) (ime : t.ime = s.ime)
    (pendingIE : t.pendingIE = s.pendingIE) (mark : t.pcOverflow = s.pcOverflow)
    (cfg : t.cfg = s.cfg) (rom : t.rom = s.rom) (mbc : t.mbc = s.mbc)
    (draws : t.romDraws = s.romDraws) (request : t.pending ≠ 0)
    (place : (t.halted = false ∧ t.pc = h) ∨ (t.halted = true ∧ t.pc = h + 1)) : HaltLoop h t where
  cfg := cfg ▸ loop.cfg
  live := live
  ime := ime.trans loop.ime
  pendingIE := pendingIE.trans loop.pendingIE
  noMark := mark.trans loop.noMark
  request := request
  inRom := loop.inRom
  present := by rw [State.romInRange, mbc, rom]; exact loop.present
  isHalt := by
    rw [cfg, State.readRom_congr rom draws (congrArg Mbc.romBank mbc)]
    exact loop.isHalt
  place := place

/-- The device update leaves the core in the loop. -/
theorem HaltLoop.feedDevices (loop : HaltLoop h s) (n : Nat) : HaltLoop h (s.feedDevices n) :=
  have frame := s.feedDevices_frame n
  loop.of_same (frame.run.trans loop.live) frame.ime frame.pendingIE frame.pcOverflow frame.cfg frame.rom
    frame.mbc frame.romDraws (frame.pending_ne_zero loop.cfg loop.request)
    (by rw [frame.halted, frame.pc]; exact loop.place)

/-- No interrupt is taken in the loop, IME being off (R28, R361). -/
theorem HaltLoop.takesInterrupt (loop : HaltLoop h s) : s.takesInterrupt = false := by
  rw [State.takesInterrupt, loop.ime, Bool.false_and, Bool.false_and]

/-- A core of the loop that is not halted fetches the `HALT`. -/
theorem HaltLoop.fetchInstr (loop : HaltLoop h s) (pc : s.pc = h) :
    s.fetchInstr = .ok .halt { s with pc := h + 1 } := by
  have rom : s.pc.toNat < 0x8000 := pc ▸ loop.inRom
  have present : s.romInRange s.pc = true := pc ▸ loop.present
  have row : s.cfg.row (s.busRead s.pc) = some 0x76 := by
    rw [State.busRead_atRom rom, pc]
    exact loop.isHalt
  have one : s.cfg.instrLength (s.busRead s.pc) = 1 := by rw [Config.instrLength, row]; rfl
  have halt : s.cfg.decode (s.busRead s.pc) 0 0 = .halt := by rw [Config.decode, row]; rfl
  have inside : h ≠ 65535#16 := fun top => by rw [pc, top] at rom; exact absurd rom (by decide)
  have moved : (s.busTouch s.pc).advancePc = { s with pc := h + 1 } := by
    rw [State.busTouch_quiet (fun _ => present) (by omega)]
    simp [State.advancePc, pc, inside]
  rw [State.fetchInstr, State.fetch8_of_present (.inr loop.noMark) fun _ => present]
  simp only [one, halt, moved, if_true]

/-- The end of an iteration leaves the core in the loop (R364, R365). -/
theorem HaltLoop.settle (loop : HaltLoop h s) (promote : Bool) (c0 : Nat) :
    HaltLoop h (s.settle promote c0) := by
  have running : s.faulted = false := by rw [State.faulted, loop.live]
  have finished : HaltLoop h (s.finishInstr promote) := by
    rw [State.finishInstr_eq]
    refine loop.of_same loop.live ?_ ?_ rfl rfl rfl rfl rfl loop.request loop.place
    · simp [loop.pendingIE]
    · simp [loop.pendingIE]
  rw [State.settle, running]
  exact finished.feedDevices _

/-- `HALT` executed with a request pending leaves the core halted just behind it (R332, R363). -/
theorem HaltLoop.step_halts (loop : HaltLoop h s) (awake : s.halted = false) (pc : s.pc = h) :
    ∃ t, step s = .next t ∧ HaltLoop h t := by
  let behind : State := { s with pc := h + 1 }
  obtain ⟨-, halts, -⟩ := systemInstructions behind 0 0
  have executes : step s = settleOutcome s.pendingIE s.cycles (exec .halt behind) := by
    rw [step_executes loop.live loop.takesInterrupt awake, State.executeOne, loop.fetchInstr pc]
  rw [halts] at executes
  refine ⟨_, executes, HaltLoop.settle ?_ s.pendingIE s.cycles⟩
  exact loop.of_same loop.live rfl rfl rfl rfl rfl rfl rfl loop.request (.inr ⟨rfl, rfl⟩)

/-- The halted core wakes at once and is back at the `HALT` (R363). -/
theorem HaltLoop.step_wakes (loop : HaltLoop h s) (halted : s.halted = true) (pc : s.pc = h + 1) :
    ∃ t, step s = .next t ∧ HaltLoop h t := by
  have tick := haltedTick s loop.live halted loop.takesInterrupt
  dsimp only at tick
  have request : s.peek s.cfg.ifAddr.toNat &&& s.peek 0xFFFF &&& 0x1F ≠ 0 := loop.request
  rw [if_neg request] at tick
  refine ⟨_, tick, HaltLoop.feedDevices ?_ 4⟩
  refine loop.of_same loop.live rfl rfl rfl rfl rfl rfl rfl loop.request (.inl ⟨rfl, ?_⟩)
  simp [loop.ime, pc]

end

/-- Settles O49: the core executes the `HALT` again, or wakes behind it and backs up. -/
theorem haltLoopForever : Obligations.HaltLoopForever := by
  intro h s loop
  rcases loop.place with ⟨awake, pc⟩ | ⟨halted, pc⟩
  · exact loop.step_halts awake pc
  · exact loop.step_wakes halted pc

/-! ### Taking an interrupt -/

theorem getLsbD_lowFive (v : Byte) {j : Nat} (hj : j < 5) :
    (v &&& 0x1F).getLsbD j = v.getLsbD j := by
  have five : ∀ j < 5, (0x1F : Byte).getLsbD j = true := by decide
  rw [BitVec.getLsbD_and, five j hj, Bool.and_true]

/-- The request taken is the lowest one (R362, R372). -/
theorem lowestPending_eq {pend : Byte} {i : Nat} (hi : i < 5) (requested : pend.getLsbD i = true)
    (lowest : ∀ j < i, pend.getLsbD j = false) : lowestPending pend = i := by
  have below : ∀ j < i, (pend.getLsbD j = true) = False := fun j hj => by simp [lowest j hj]
  unfold lowestPending
  obtain rfl | rfl | rfl | rfl | rfl : i = 0 ∨ i = 1 ∨ i = 2 ∨ i = 3 ∨ i = 4 := by omega
  all_goals simp only [requested, below, Nat.reduceLT, if_true, if_false]

theorem ofNat_two_pow {i : Nat} (hi : i < 5) : BitVec.ofNat 8 (2 ^ i) = 1#8 <<< i := by
  obtain rfl | rfl | rfl | rfl | rfl : i = 0 ∨ i = 1 ∨ i = 2 ∨ i = 3 ∨ i = 4 := by omega
  all_goals rfl

/-- The machine after PC has been pushed, the core as before (R196, R362). -/
def State.pcPushed (s : State) : State :=
  (s.busWrite (s.sp - 1) (hiByte s.pc)).busWrite (s.sp - 2) (loByte s.pc)

theorem State.pcPushed_frame (s : State) : BusFrame s s.pcPushed :=
  (s.busWrite_frame _ _).trans (State.busWrite_frame _ _ _)

theorem State.push16_pc (s : State) :
    { s with halted := false }.push16 s.pc = { s.pcPushed with halted := false, sp := s.sp - 2 } := by
  rw [State.push16_eq]
  simp only [State.busWrite_set_halted]
  rfl

theorem State.busWrite_set_halted_sp (s : State) (b : Bool) (y x : Word) (v : Byte) :
    { s with halted := b, sp := y }.busWrite x v =
      { s.busWrite x v with halted := b, sp := y } := by
  rw [State.busWrite_core (s := s) rfl]
  exact congrArg (fun t : State => { t with halted := b, sp := y })
    (State.withCore_self (s.busWrite_frame x v))

/-- The machine after PC has been pushed and bit `i` of IF cleared, the core as before (R362). -/
def State.acknowledged (s : State) (i : Nat) : State :=
  s.pcPushed.busWrite s.cfg.ifAddr
    (s.pcPushed.peek s.cfg.ifAddr.toNat &&& ~~~(BitVec.ofNat 8 (2 ^ i)))

/-- Taking an interrupt as three bus writes and one update of the core (R362). -/
theorem State.takeInterrupt_eq (s : State) (i : Nat) :
    s.takeInterrupt i = { s.acknowledged i with
      halted := false, ime := false, sp := s.sp - 2, pc := vector i, pcOverflow := false
      cycles := s.cycles + 20 } := by
  have frame := s.pcPushed_frame
  have cycles : (s.acknowledged i).cycles = s.cycles := (State.busWrite_cycles _ _ _).trans frame.cycles
  have acknowledge (p : State) (eq : p = { s.pcPushed with halted := false, sp := s.sp - 2 }) :
      p.busWrite p.cfg.ifAddr (p.peek p.cfg.ifAddr.toNat &&& ~~~(BitVec.ofNat 8 (2 ^ i))) =
        { s.acknowledged i with halted := false, sp := s.sp - 2 } := by
    rw [eq, State.acknowledged, ← frame.cfg]
    exact s.pcPushed.busWrite_set_halted_sp false (s.sp - 2) _ _
  have taken := acknowledge _ s.push16_pc
  unfold State.takeInterrupt
  dsimp only
  rw [taken, ← cycles]
  rfl

/-- Settles O40: the branch of the iteration, and what taking the lowest request does. -/
theorem interruptDispatch : Obligations.InterruptDispatch := by
  refine ⟨fun s => ?_, fun s i live ime pendingIE hi requested lowest => ?_⟩
  · simp [State.takesInterrupt, State.pending, ieAddr, and_assoc]
  intro pushed cleared taken
  have bit : ∀ j < 5, s.pending.getLsbD j =
      (s.peek s.cfg.ifAddr.toNat &&& s.peek 0xFFFF).getLsbD j := fun j hj =>
    getLsbD_lowFive _ hj
  have which : lowestPending s.pending = i := lowestPending_eq hi ((bit i hi).trans requested)
    fun j hj => (bit j (by omega)).trans (lowest j hj)
  have some : s.pending ≠ 0 := fun none => by
    have bit := (bit i hi).trans requested
    rw [none] at bit
    exact absurd bit (by simp)
  have takes : s.takesInterrupt = true := by
    rw [State.takesInterrupt, ime, pendingIE, bne_iff_ne.mpr some]
    rfl
  have acknowledged : s.acknowledged i = cleared := by
    rw [State.acknowledged, ofNat_two_pow hi]
    rfl
  have dispatched : s.dispatch = taken := by
    rw [State.dispatch, which, State.takeInterrupt_eq, acknowledged]
    rfl
  have twenty : taken.cycles - s.cycles = 20 := Nat.add_sub_cancel_left s.cycles 20
  unfold step iteration
  rw [live]
  simp only [takes, if_true, dispatched, State.feedSince, twenty]

end Sys2Proof.Machine
end

section
/-!
PROOFS. The divider and the timer (R380 to R382): what `counts` ticks of TIMA make of TIMA and IF, by
induction on the ticks, and the update of both registers for any number of cycles.
-/

namespace Sys2Proof.Machine

/-! ### One tick and many -/

/-- TIMA after `n` counts from `tima`: reloaded from `tma` at each overflow (R381). -/
def timaAfter (tima tma n : Nat) : Nat :=
  if tima + n < 256 then tima + n else tma + (tima + n - 256) % (256 - tma)

theorem timaAfter_succ {tima tma : Nat} (hi : tima < 256) (hm : tma < 256) (n : Nat) :
    timaAfter tima tma (n + 1) = timaAfter (if tima = 255 then tma else tima + 1) tma n := by
  by_cases full : tima = 255
  · subst full
    rw [if_pos rfl, timaAfter, if_neg (by omega), show 255 + (n + 1) - 256 = n by omega, timaAfter]
    split
    · next inside => rw [Nat.mod_eq_of_lt (by omega)]
    · next past => rw [Nat.mod_eq_sub_mod (by omega), show n - (256 - tma) = tma + n - 256 by omega]
  · rw [if_neg full, timaAfter, timaAfter, show tima + (n + 1) = tima + 1 + n by omega]

/-- From `s` to `t` only the byte array is another. -/
def MemoryOnly (s t : State) : Prop := t = { s with mem := t.mem }

theorem MemoryOnly.eq {s t : State} (h : MemoryOnly s t) : t = { s with mem := t.mem } := h

theorem MemoryOnly.trans {s t u : State} (h : MemoryOnly s t) (k : MemoryOnly t u) :
    MemoryOnly s u := by
  have same : { t with mem := u.mem } = { s with mem := u.mem } :=
    congrArg (fun v : State => { v with mem := u.mem }) h.eq
  exact k.eq.trans same

theorem State.timaTick_memoryOnly (s : State) : MemoryOnly s s.timaTick := by
  unfold State.timaTick
  split <;> rfl

theorem State.timaTicks_memoryOnly (n : Nat) (s : State) :
    MemoryOnly s (iterate State.timaTick n s) :=
  iterate_rel (r := MemoryOnly) (fun _ => rfl) MemoryOnly.trans State.timaTick_memoryOnly n s

section
variable {s : State}

/-- A tick writes no byte but TIMA and IF (R381). -/
theorem State.peek_timaTick {n : Nat} (tima : n ≠ 0xFF05) (other : n ≠ s.cfg.ifAddr.toNat) :
    s.timaTick.peek n = s.peek n := by
  unfold State.timaTick
  split
  · exact (State.peek_poke_of_ne _ _ other).trans (State.peek_poke_of_ne _ _ tima)
  · exact State.peek_poke_of_ne _ _ tima

theorem State.timaTick_cfg (s : State) : s.timaTick.cfg = s.cfg := (s.timaTick_frame).cfg

theorem State.peek_timaTicks {n : Nat} (c : Nat) (tima : n ≠ 0xFF05)
    (other : n ≠ s.cfg.ifAddr.toNat) : (iterate State.timaTick c s).peek n = s.peek n := by
  induction c generalizing s with
  | zero => rfl
  | succ c ih =>
    exact (ih (s := s.timaTick) (s.timaTick_cfg ▸ other)).trans (State.peek_timaTick tima other)

/-- A tick counts TIMA, or reloads it from TMA and requests interrupt 2 (R381, R382). -/
theorem State.timaTick_counts (apart : s.cfg.ifAddr.toNat ≠ 0xFF05) :
    (s.timaTick.peek 0xFF05).toNat =
      (if (s.peek 0xFF05).toNat = 255 then (s.peek 0xFF06).toNat else (s.peek 0xFF05).toNat + 1) ∧
    s.timaTick.peek s.cfg.ifAddr.toNat =
      (if (s.peek 0xFF05).toNat = 255 then s.peek s.cfg.ifAddr.toNat ||| 4
        else s.peek s.cfg.ifAddr.toNat) := by
  have top : s.peek 0xFF05 = 0xFF ↔ (s.peek 0xFF05).toNat = 255 := by
    rw [← BitVec.toNat_inj]; rfl
  have hi := (s.peek 0xFF05).isLt
  unfold State.timaTick
  by_cases full : (s.peek 0xFF05).toNat = 255
  · rw [if_pos (top.mpr full), if_pos full, if_pos full]
    constructor
    · rw [State.peek_requestInterrupt, State.poke_cfg, if_neg (Ne.symm apart), State.peek_poke_self]
    · rw [State.peek_requestInterrupt, State.poke_cfg, if_pos rfl, State.peek_poke_of_ne _ _ apart]
      rfl
  · rw [if_neg (mt top.mp full), if_neg full, if_neg full]
    constructor
    · rw [State.peek_poke_self, BitVec.toNat_add]
      exact Nat.mod_eq_of_lt (by show (s.peek 0xFF05).toNat + 1 < 256; omega)
    · exact State.peek_poke_of_ne _ _ apart

/-- What any number of ticks makes of TIMA and IF (R381, R382). -/
theorem State.timaTicks_count (apart : s.cfg.ifAddr.toNat ≠ 0xFF05)
    (tma : s.cfg.ifAddr.toNat ≠ 0xFF06) (c : Nat) :
    ((iterate State.timaTick c s).peek 0xFF05).toNat =
      timaAfter (s.peek 0xFF05).toNat (s.peek 0xFF06).toNat c ∧
    (iterate State.timaTick c s).peek s.cfg.ifAddr.toNat =
      (if (s.peek 0xFF05).toNat + c < 256 then s.peek s.cfg.ifAddr.toNat
        else s.peek s.cfg.ifAddr.toNat ||| 4) := by
  induction c generalizing s with
  | zero =>
    have hi : (s.peek 0xFF05).toNat < 256 := (s.peek 0xFF05).isLt
    rw [timaAfter, if_pos (by omega), if_pos (by omega)]
    exact ⟨rfl, rfl⟩
  | succ c ih =>
    have hi : (s.peek 0xFF05).toNat < 256 := (s.peek 0xFF05).isLt
    have hm : (s.peek 0xFF06).toNat < 256 := (s.peek 0xFF06).isLt
    have cfg := s.timaTick_cfg
    obtain ⟨count, flag⟩ := State.timaTick_counts apart
    obtain ⟨counts, flags⟩ := ih (s := s.timaTick) (cfg ▸ apart) (cfg ▸ tma)
    rw [count, State.peek_timaTick (by decide) (Ne.symm tma)] at counts
    rw [count, cfg, flag] at flags
    refine ⟨counts.trans (timaAfter_succ hi hm c).symm, flags.trans ?_⟩
    by_cases full : (s.peek 0xFF05).toNat = 255
    · rw [if_pos full, if_pos full, if_neg (show ¬ (s.peek 0xFF05).toNat + (c + 1) < 256 by omega),
        BitVec.or_assoc]
      exact ite_self _
    · rw [if_neg full, if_neg full, Nat.add_right_comm, Nat.add_assoc]

end

/-! ### The update -/

theorem byte_eq_ofNat {v : Byte} {n : Nat} (h : v.toNat = n) : v = BitVec.ofNat 8 n := by
  rw [← h, BitVec.ofNat_toNat, BitVec.setWidth_eq]

theorem timerPeriod_eq (tac : Byte) :
    timerPeriod tac = ([1024, 16, 64, 256] : List Nat).getD (tac.toNat % 4) 0 := by
  revert tac
  decide

theorem State.peek_dividerUpdate_of_ne (s : State) (delta : Nat) {n : Nat} (div : n ≠ 0xFF04) :
    (s.dividerUpdate delta).peek n = s.peek n := State.peek_poke_of_ne _ _ div

theorem State.peek_dividerUpdate (s : State) (delta : Nat) :
    (s.dividerUpdate delta).peek 0xFF04 =
      BitVec.ofNat 8 ((s.peek 0xFF04).toNat + (s.timer.divSub + delta) / 256) := by
  refine (State.peek_poke_self _ _ _).trans ?_
  rw [BitVec.ofNat_add, BitVec.ofNat_toNat, BitVec.setWidth_eq]
  rfl

/-- The timer's part while TAC[2] is clear (R382). -/
theorem State.timaUpdate_held {s : State} (off : (s.peek 0xFF07).getLsbD 2 = false) (delta : Nat) :
    s.timaUpdate delta = s :=
  if_neg (by rw [off]; decide)

/-- The timer's part while TAC[2] is set: a tick for every period (R381). -/
theorem State.timaUpdate_counting {s : State} (on : (s.peek 0xFF07).getLsbD 2 = true) (delta : Nat) :
    s.timaUpdate delta =
      iterate State.timaTick ((s.timer.timaSub + delta) / timerPeriod (s.peek 0xFF07))
        { s with timer := { s.timer with
          timaSub := (s.timer.timaSub + delta) % timerPeriod (s.peek 0xFF07) } } :=
  if_pos on

/-- Settles O50: the divider's part, and the ticks of TIMA that fall due where TAC enables it. -/
theorem timerUpdate : Obligations.TimerUpdate := by
  intro s delta ok t tac period counts tima tma f
  have apart : f ≠ 0xFF04 ∧ f ≠ 0xFF05 ∧ f ≠ 0xFF06 ∧ f ≠ 0xFF07 := by
    rcases ok with h | h | h <;> omega
  obtain ⟨notDiv, notTima, notTma, notTac⟩ := apart
  let d := s.dividerUpdate delta
  have divided {n : Nat} (h : n ≠ 0xFF04) : d.peek n = s.peek n := s.peek_dividerUpdate_of_ne delta h
  have tacD : d.peek 0xFF07 = tac := divided (by decide)
  cases on : tac.getLsbD 2 with
  | false =>
    have held : t = d := State.timaUpdate_held (tacD ▸ on) delta
    rw [held]
    refine ⟨rfl, s.peek_dividerUpdate delta, rfl, fun n h _ _ => divided h,
      fun _ => ⟨rfl, divided (by decide), divided notDiv⟩, fun h => absurd h (by decide)⟩
  | true =>
    let u : State := { d with timer := { d.timer with timaSub := (s.timer.timaSub + delta) % period } }
    have ticked : t = iterate State.timaTick counts u := by
      have counting := State.timaUpdate_counting (s := d) (tacD ▸ on) delta
      rw [tacD, timerPeriod_eq] at counting
      exact counting
    have only : MemoryOnly u t := ticked ▸ State.timaTicks_memoryOnly counts u
    have timer : t.timer = u.timer := by rw [only.eq]
    have others {n : Nat} (h5 : n ≠ 0xFF05) (hf : n ≠ f) : t.peek n = d.peek n := by
      rw [ticked]
      exact State.peek_timaTicks counts h5 hf
    obtain ⟨count, flag⟩ := State.timaTicks_count (s := u) notTima notTma counts
    rw [← ticked] at count flag
    have value : t.peek 0xFF05 = BitVec.ofNat 8 (timaAfter tima tma counts) := by
      refine byte_eq_ofNat (count.trans ?_)
      show timaAfter (d.peek 0xFF05).toNat (d.peek 0xFF06).toNat counts = _
      rw [divided (by decide), divided (by decide)]
    have flag : t.peek f = if tima + counts < 256 then s.peek f else s.peek f ||| 4 := by
      refine flag.trans ?_
      show (if (d.peek 0xFF05).toNat + counts < 256 then d.peek f else d.peek f ||| 4) = _
      rw [divided (by decide), divided notDiv]
    refine ⟨only.eq.trans (by rw [timer]; rfl), ?_, congrArg Timer.divSub timer, fun n h4 h5 hf => ?_,
      fun h => absurd h (by decide), fun _ => ⟨congrArg Timer.timaSub timer, fun inside => ?_,
      fun past => ?_⟩⟩
    · exact (others (by decide) (Ne.symm notDiv)).trans (s.peek_dividerUpdate delta)
    · exact (others h5 hf).trans (divided h4)
    · rw [value, flag, timaAfter, if_pos inside, if_pos inside]
      exact ⟨rfl, rfl⟩
    · rw [value, flag, timaAfter, if_neg (by omega), if_neg (by omega)]
      exact ⟨rfl, rfl⟩

end Sys2Proof.Machine
end

section
/-!
PROOFS. Entering a mode and starting a line (R432, R434, R435): every byte of the array after each.
-/

namespace Sys2Proof.Machine

theorem Config.Ok.ifAddr_ne {p : Config} (ok : p.Ok) {n : Nat} (hn : n ∈ deviceBytes) :
    p.ifAddr.toNat ≠ n := Ne.symm (Config.Ok.not_device ok hn)

/-! ### STAT's bits -/

theorem stat_withMode (v : Byte) (m : PpuMode) :
    v &&& 0xFC ||| m.code = BitVec.ofNat 8 (v.toNat / 4 * 4 + m.code.toNat) := by
  cases m <;> revert v <;> decide

/-- The mode bits are none of those that enable an interrupt (R423). -/
theorem statEnables_withMode (v : Byte) (m : PpuMode) :
    statEnables (v &&& 0xFC ||| m.code) m = statEnables v m := by
  cases m <;> revert v <;> decide

theorem getLsbD_bit (k i : Nat) (hk : k < 8) : (BitVec.ofNat 8 (2 ^ k)).getLsbD i = decide (i = k) := by
  rw [BitVec.getLsbD_ofNat, Nat.testBit_two_pow]
  by_cases h : i = k
  · simp [h, hk]
  · simp [h, Ne.symm h]

/-- Setting bit `k` of a byte. -/
theorem getLsbD_setBit (v : Byte) (k i : Nat) (hk : k < 8) :
    (v ||| BitVec.ofNat 8 (2 ^ k)).getLsbD i = (v.getLsbD i || decide (i = k)) := by
  rw [BitVec.getLsbD_or, getLsbD_bit k i hk]

/-- Clearing the coincidence bit (R435). -/
theorem getLsbD_clearCoincidence (v : Byte) (i : Nat) :
    (v &&& 0xFB).getLsbD i = (v.getLsbD i && decide (i ≠ 2)) := by
  have small : ∀ i < 8, (0xFB : Byte).getLsbD i = decide (i ≠ 2) := by decide
  rw [BitVec.getLsbD_and]
  by_cases h : i < 8
  · rw [small i h]
  · rw [BitVec.getLsbD_of_ge v i (by omega), Bool.false_and, Bool.false_and]

/-! ### A request where it is asked for -/

/-- Interrupt `kind` requested where `asked`. -/
def State.requestIf (s : State) (asked : Bool) (kind : Nat) : State :=
  if asked then s.requestInterrupt kind else s

theorem State.peek_requestIf (s : State) (asked : Bool) (kind n : Nat) :
    (s.requestIf asked kind).peek n = if n = s.cfg.ifAddr.toNat ∧ asked = true then
      s.peek s.cfg.ifAddr.toNat ||| BitVec.ofNat 8 (2 ^ kind) else s.peek n := by
  cases asked with
  | false => simp [State.requestIf]
  | true => simp [State.requestIf, State.peek_requestInterrupt]

section
variable (s : State)

/-- The machine with mode `m` in the PPU's record and in STAT, and the line in LY (R432). -/
def State.withMode (m : PpuMode) : State :=
  (({ s with ppu := { s.ppu with mode := m } } : State).poke 0xFF41
    (s.peek 0xFF41 &&& 0xFC ||| m.code)).poke 0xFF44 (BitVec.ofNat 8 s.ppu.line)

theorem State.peek_withMode (m : PpuMode) (k : Nat) :
    (s.withMode m).peek k = if k = 0xFF44 then BitVec.ofNat 8 s.ppu.line
      else if k = 0xFF41 then s.peek 0xFF41 &&& 0xFC ||| m.code else s.peek k := by
  rw [State.withMode, State.peek_poke, State.peek_poke]
  rfl

/-- Entering a mode: the mode stored, and the request where STAT enables it (R432, R434). -/
theorem State.setMode_eq (m : PpuMode) :
    s.setMode m = (s.withMode m).requestIf (statEnables (s.peek 0xFF41) m) 1 := by
  have stat : (s.withMode m).peek 0xFF41 = s.peek 0xFF41 &&& 0xFC ||| m.code := s.peek_withMode m _
  show (s.withMode m).requestIf (statEnables ((s.withMode m).peek 0xFF41) m) 1 = _
  rw [stat, statEnables_withMode]

/-- Every byte after a mode is entered. -/
theorem State.peek_setMode (ok : s.cfg.Ok) (m : PpuMode) (k : Nat) : (s.setMode m).peek k =
    if k = s.cfg.ifAddr.toNat ∧ statEnables (s.peek 0xFF41) m = true then
      s.peek s.cfg.ifAddr.toNat ||| 0x02
    else (s.withMode m).peek k := by
  have old : (s.withMode m).peek s.cfg.ifAddr.toNat = s.peek s.cfg.ifAddr.toNat := by
    rw [State.peek_withMode, if_neg (Config.Ok.ifAddr_ne ok (by decide)),
      if_neg (Config.Ok.ifAddr_ne ok (by decide))]
  rw [State.setMode_eq, State.peek_requestIf, ← old]
  rfl

/-- The machine with line `n` in the PPU's record and in LY (R432). -/
def State.withLine (n : Nat) : State :=
  ({ s with ppu := { s.ppu with line := n } } : State).poke 0xFF44 (BitVec.ofNat 8 n)

/-- The same with the coincidence bit (R435). -/
def State.withCoincidence (n : Nat) (equal : Bool) : State :=
  (s.withLine n).poke 0xFF41 (if equal then s.peek 0xFF41 ||| 0x04 else s.peek 0xFF41 &&& 0xFB)

theorem State.peek_withCoincidence (n : Nat) (equal : Bool) (k : Nat) :
    (s.withCoincidence n equal).peek k =
      if k = 0xFF41 then (if equal then s.peek 0xFF41 ||| 0x04 else s.peek 0xFF41 &&& 0xFB)
      else if k = 0xFF44 then BitVec.ofNat 8 n else s.peek k := by
  rw [State.withCoincidence, State.peek_poke, State.withLine, State.peek_poke]
  rfl

/-- Starting a line: the line and the coincidence stored, and the request on it (R432, R435). -/
theorem State.setLine_eq (n : Nat) :
    s.setLine n = (s.withCoincidence n (decide (n = (s.peek 0xFF45).toNat))).requestIf
      (decide (n = (s.peek 0xFF45).toNat) && (s.peek 0xFF41).getLsbD 6) 1 := by
  have lyc : (s.withLine n).peek 0xFF45 = s.peek 0xFF45 := State.peek_poke_of_ne _ _ (by decide)
  have stat : (s.withLine n).peek 0xFF41 = s.peek 0xFF41 := State.peek_poke_of_ne _ _ (by decide)
  have enable : (s.peek 0xFF41 ||| 0x04).getLsbD 6 = (s.peek 0xFF41).getLsbD 6 :=
    (getLsbD_setBit _ 2 6 (by decide)).trans (Bool.or_false _)
  show (if n = ((s.withLine n).peek 0xFF45).toNat then
    ((s.withLine n).poke 0xFF41 ((s.withLine n).peek 0xFF41 ||| 0x04)).requestIf
      ((((s.withLine n).poke 0xFF41 ((s.withLine n).peek 0xFF41 ||| 0x04)).peek 0xFF41).getLsbD 6) 1
    else (s.withLine n).poke 0xFF41 ((s.withLine n).peek 0xFF41 &&& 0xFB)) = _
  rw [lyc, stat]
  by_cases equal : n = (s.peek 0xFF45).toNat
  · rw [if_pos equal, decide_eq_true equal, State.peek_poke_self, enable]
    rfl
  · rw [if_neg equal, decide_eq_false equal]
    rfl

/-- Every byte after a line is started. -/
theorem State.peek_setLine (ok : s.cfg.Ok) (n k : Nat) {equal : Bool}
    (same : equal = decide (n = (s.peek 0xFF45).toNat)) : (s.setLine n).peek k =
    if k = s.cfg.ifAddr.toNat ∧ (equal && (s.peek 0xFF41).getLsbD 6) = true then
      s.peek s.cfg.ifAddr.toNat ||| 0x02
    else (s.withCoincidence n equal).peek k := by
  subst same
  have old (equal : Bool) :
      (s.withCoincidence n equal).peek s.cfg.ifAddr.toNat = s.peek s.cfg.ifAddr.toNat := by
    rw [State.peek_withCoincidence, if_neg (Config.Ok.ifAddr_ne ok (by decide)),
      if_neg (Config.Ok.ifAddr_ne ok (by decide))]
  rw [State.setLine_eq, State.peek_requestIf, ← old]
  rfl

end

/-- Settles O52: the bytes stored and the request, by address. -/
theorem statAndLine : Obligations.StatAndLine := by
  intro s m n ok f asked code t u equal
  have notStat : f ≠ 0xFF41 := Config.Ok.ifAddr_ne ok (by decide)
  have notLy : f ≠ 0xFF44 := Config.Ok.ifAddr_ne ok (by decide)
  have asks : statEnables (s.peek 0xFF41) m = asked := by cases m <;> rfl
  have byte : code = m.code.toNat := by cases m <;> rfl
  have moded (k : Nat) : t.peek k = _ := s.peek_setMode ok m k
  have lined (k : Nat) : u.peek k = _ := s.peek_setLine ok n k (equal := equal) rfl
  simp only [asks, State.peek_withMode] at moded
  simp only [State.peek_withCoincidence] at lined
  refine ⟨s.setMode_ppu m, ?_, ?_, ?_, fun k stat ly other => ?_, s.setLine_ppu n, ?_, ?_, fun k hk => ?_,
    ?_, fun k stat ly other => ?_⟩
  · rw [moded, if_neg (fun h => notStat h.1.symm), byte]
    exact stat_withMode _ m
  · rw [moded, if_neg (fun h => notLy h.1.symm)]
    rfl
  · simp only [moded, true_and, if_neg notLy, if_neg notStat, f]
  · rw [moded, if_neg (fun h => other h.1), if_neg ly, if_neg stat]
  · rw [lined, if_neg (fun h => notLy h.1.symm)]
    rfl
  · rw [lined, if_neg (fun h => notStat h.1.symm), if_pos rfl]
    cases equal
    · exact (getLsbD_clearCoincidence _ 2).trans (Bool.and_false _)
    · exact (getLsbD_setBit _ 2 2 (by decide)).trans (Bool.or_true _)
  · rw [lined, if_neg (fun h => notStat h.1.symm), if_pos rfl]
    cases equal
    · exact (getLsbD_clearCoincidence _ k).trans (by simp [hk])
    · exact (getLsbD_setBit _ 2 k (by decide)).trans (by simp [hk])
  · simp only [lined, true_and, if_neg notLy, if_neg notStat, f]
  · rw [lined, if_neg (fun h => other h.1), if_neg stat, if_neg ly]

end Sys2Proof.Machine
end

section
/-!
PROOFS. The PPU's update (R430, R431, R433, R436, R440): the transitions that fall due as a loop over the
counter, the place in the frame they lead to, the V-blank answer, and the bytes they write.
-/

namespace Sys2Proof.Machine

/-! ### A transition does not see the counter -/

/-- The machine with another mode counter and another V-blank answer. -/
def State.withClock (s : State) (clock : Nat) (vblank : Bool) : State :=
  { s with ppu := { s.ppu with modeClock := clock }, vblank := vblank }

section
variable (s : State) (c d : Nat) (v w : Bool)

theorem State.withClock_withClock : (s.withClock c v).withClock d w = s.withClock d w := rfl

theorem State.setMode_withClock (m : PpuMode) :
    (s.withClock c v).setMode m = (s.setMode m).withClock c v := by
  rw [State.setMode_eq, State.setMode_eq]
  show (((s.withMode m).withClock c v).requestIf (statEnables (s.peek 0xFF41) m) 1) = _
  cases statEnables (s.peek 0xFF41) m <;> rfl

theorem State.setLine_withClock (n : Nat) :
    (s.withClock c v).setLine n = (s.setLine n).withClock c v := by
  rw [State.setLine_eq, State.setLine_eq]
  show ((s.withCoincidence n (decide (n = (s.peek 0xFF45).toNat))).withClock c v).requestIf
    (decide (n = (s.peek 0xFF45).toNat) && (s.peek 0xFF41).getLsbD 6) 1 = _
  cases decide (n = (s.peek 0xFF45).toNat) && (s.peek 0xFF41).getLsbD 6 <;> rfl

theorem State.drawWindow_withClock : (s.withClock c v).drawWindow = s.drawWindow.withClock c v := by
  unfold State.drawWindow
  rw [show (s.withClock c v).peek 0xFF40 = s.peek 0xFF40 from rfl]
  split <;> rfl

theorem State.enterVblank_withClock :
    (s.withClock c v).enterVblank = s.enterVblank.withClock c true := by
  unfold State.enterVblank
  dsimp only
  rw [State.setMode_withClock, show ((s.setMode .vblank).withClock c v).requestInterrupt 0 =
    ((s.setMode .vblank).requestInterrupt 0).withClock c v from rfl, State.drawWindow_withClock]
  rfl

/-- Does the transition out of the current mode start line 144 (R430, R433)? -/
def Ppu.entersVblank (p : Ppu) : Bool := decide (p.mode = .hblank ∧ p.line = 143)

end

/-! ### The transitions, by mode (R430) -/

section
variable {s : State}

theorem State.leaveMode_oamScan (mode : s.ppu.mode = .oamScan) :
    s.leaveMode = s.endMode.scanLine.setMode .transfer := by
  unfold State.leaveMode
  rw [mode]

theorem State.leaveMode_transfer (mode : s.ppu.mode = .transfer) :
    s.leaveMode = s.endMode.renderLine.setMode .hblank := by
  unfold State.leaveMode
  rw [mode]

theorem State.leaveMode_hblank (mode : s.ppu.mode = .hblank) (line : s.ppu.line ≠ 143) :
    s.leaveMode = (s.endMode.setLine (s.ppu.line + 1)).setMode .oamScan := by
  unfold State.leaveMode
  rw [mode]
  exact if_neg (by rw [State.setLine_ppu]; simpa using line)

theorem State.leaveMode_lastLine (mode : s.ppu.mode = .hblank) (line : s.ppu.line = 143) :
    s.leaveMode = (s.endMode.setLine 144).enterVblank := by
  unfold State.leaveMode
  rw [mode, line]
  exact if_pos (by rw [State.setLine_ppu])

theorem State.leaveMode_vblank (mode : s.ppu.mode = .vblank) (line : s.ppu.line ≠ 153) :
    s.leaveMode = s.endMode.setLine (s.ppu.line + 1) := by
  unfold State.leaveMode
  rw [mode]
  exact if_neg line

theorem State.leaveMode_lastVblank (mode : s.ppu.mode = .vblank) (line : s.ppu.line = 153) :
    s.leaveMode = (s.endMode.setLine 0).setMode .oamScan := by
  unfold State.leaveMode
  rw [mode]
  exact if_pos line

/-- The six transitions. -/
theorem State.leaveMode_cases {P : State → Prop} (s : State)
    (scan : s.ppu.mode = .oamScan → P (s.endMode.scanLine.setMode .transfer))
    (draw : s.ppu.mode = .transfer → P (s.endMode.renderLine.setMode .hblank))
    (next : s.ppu.mode = .hblank → s.ppu.line ≠ 143 →
      P ((s.endMode.setLine (s.ppu.line + 1)).setMode .oamScan))
    (frame : s.ppu.mode = .hblank → s.ppu.line = 143 → P (s.endMode.setLine 144).enterVblank)
    (idle : s.ppu.mode = .vblank → s.ppu.line ≠ 153 → P (s.endMode.setLine (s.ppu.line + 1)))
    (top : s.ppu.mode = .vblank → s.ppu.line = 153 → P ((s.endMode.setLine 0).setMode .oamScan)) :
    P s.leaveMode := by
  cases mode : s.ppu.mode with
  | oamScan => exact State.leaveMode_oamScan mode ▸ scan mode
  | transfer => exact State.leaveMode_transfer mode ▸ draw mode
  | hblank =>
    by_cases line : s.ppu.line = 143
    · exact State.leaveMode_lastLine mode line ▸ frame mode line
    · exact State.leaveMode_hblank mode line ▸ next mode line
  | vblank =>
    by_cases line : s.ppu.line = 153
    · exact State.leaveMode_lastVblank mode line ▸ top mode line
    · exact State.leaveMode_vblank mode line ▸ idle mode line

theorem State.leaveMode_withClock (s : State) (c : Nat) (v : Bool) :
    (s.withClock c v).leaveMode =
      s.leaveMode.withClock (c - s.ppu.mode.duration) (s.ppu.entersVblank || v) := by
  have ended : (s.withClock c v).endMode = s.endMode.withClock (c - s.ppu.mode.duration) v := rfl
  cases mode : s.ppu.mode with
  | oamScan =>
    have quiet : s.ppu.entersVblank = false := by simp [Ppu.entersVblank, mode]
    rw [quiet, ← mode, State.leaveMode_oamScan mode]
    exact (State.leaveMode_oamScan (s := s.withClock c v) mode).trans
      (State.setMode_withClock s.endMode.scanLine _ _ _)
  | transfer =>
    have quiet : s.ppu.entersVblank = false := by simp [Ppu.entersVblank, mode]
    rw [quiet, ← mode, State.leaveMode_transfer mode]
    exact (State.leaveMode_transfer (s := s.withClock c v) mode).trans
      (State.setMode_withClock s.endMode.renderLine _ _ _)
  | hblank =>
    by_cases line : s.ppu.line = 143
    · have enters : s.ppu.entersVblank = true := by simp [Ppu.entersVblank, mode, line]
      rw [enters, ← mode, State.leaveMode_lastLine mode line]
      refine (State.leaveMode_lastLine (s := s.withClock c v) mode line).trans ?_
      rw [ended, State.setLine_withClock, State.enterVblank_withClock]
      rfl
    · have quiet : s.ppu.entersVblank = false := by simp [Ppu.entersVblank, line]
      rw [quiet, ← mode, State.leaveMode_hblank mode line]
      refine (State.leaveMode_hblank (s := s.withClock c v) mode line).trans ?_
      rw [ended, State.setLine_withClock, State.setMode_withClock]
      rfl
  | vblank =>
    have quiet : s.ppu.entersVblank = false := by simp [Ppu.entersVblank, mode]
    by_cases line : s.ppu.line = 153
    · rw [quiet, ← mode, State.leaveMode_lastVblank mode line]
      refine (State.leaveMode_lastVblank (s := s.withClock c v) mode line).trans ?_
      rw [ended, State.setLine_withClock, State.setMode_withClock]
      rfl
    · rw [quiet, ← mode, State.leaveMode_vblank mode line]
      refine (State.leaveMode_vblank (s := s.withClock c v) mode line).trans ?_
      rw [ended, State.setLine_withClock]
      rfl

end

/-! ### The loop of the update -/

section
variable (s : State)

/-- The V-blank answer of an update that goes on after one that answered `v`. -/
def State.orVblank (v : Bool) : State := { s with vblank := v || s.vblank }

theorem State.orVblank_orVblank (v w : Bool) : (s.orVblank v).orVblank w = s.orVblank (w || v) := by
  show ({ s with vblank := w || (v || s.vblank) } : State) = { s with vblank := (w || v) || s.vblank }
  rw [Bool.or_assoc]

/-- Earlier answers are kept through the loop. -/
theorem State.ppuLoop_withClock (n c : Nat) (v : Bool) :
    State.ppuLoop n (s.withClock c v) = (State.ppuLoop n (s.withClock c false)).orVblank v := by
  induction n generalizing s c v with
  | zero => exact (congrArg (s.withClock c) (Bool.or_false v)).symm
  | succ n ih =>
    show (if s.ppu.mode.duration ≤ c then State.ppuLoop n (s.withClock c v).leaveMode else _) =
      State.orVblank (if s.ppu.mode.duration ≤ c then State.ppuLoop n (s.withClock c false).leaveMode
        else s.withClock c false) v
    by_cases due : s.ppu.mode.duration ≤ c
    · rw [if_pos due, if_pos due, State.leaveMode_withClock, State.leaveMode_withClock,
        ih s.leaveMode _ (_ || v), ih s.leaveMode _ (_ || false), State.orVblank_orVblank, Bool.or_false,
        Bool.or_comm v]
    · rw [if_neg due, if_neg due]
      exact (congrArg (s.withClock c) (Bool.or_false v)).symm

/-- Every bound that is enough gives the same: each transition takes at least 80 cycles. -/
theorem State.ppuLoop_bound {n m : Nat} (hn : s.ppu.modeClock < 80 * n) (hm : s.ppu.modeClock < 80 * m) :
    State.ppuLoop n s = State.ppuLoop m s := by
  induction n generalizing m s with
  | zero => omega
  | succ n ih =>
    obtain ⟨m, rfl⟩ : ∃ k, m = k + 1 := ⟨m - 1, by omega⟩
    unfold State.ppuLoop
    split
    · have long := s.ppu.mode.duration_ge
      have clock := s.leaveMode_modeClock
      exact ih s.leaveMode (by omega) (by omega)
    · rfl

variable {s}

/-- With the LCD off nothing moves (R436). -/
theorem State.ppuUpdate_off (off : (s.peek 0xFF40).getLsbD 7 = false) (delta : Nat) :
    s.ppuUpdate delta = { s with vblank := false } :=
  if_pos (by rw [show State.peek { s with vblank := false } 0xFF40 = s.peek 0xFF40 from rfl, off]; rfl)

theorem State.ppuUpdate_on (on : (s.peek 0xFF40).getLsbD 7 = true) (delta : Nat) :
    s.ppuUpdate delta = State.ppuLoop ((s.ppu.modeClock + delta) / 80 + 1)
      (s.withClock (s.ppu.modeClock + delta) false) :=
  if_neg (by rw [show State.peek { s with vblank := false } 0xFF40 = s.peek 0xFF40 from rfl, on]; decide)

/-- An update that does not reach the end of the mode only counts. -/
theorem State.ppuUpdate_within (on : (s.peek 0xFF40).getLsbD 7 = true) {delta : Nat}
    (within : s.ppu.modeClock + delta < s.ppu.mode.duration) :
    s.ppuUpdate delta = s.withClock (s.ppu.modeClock + delta) false := by
  rw [State.ppuUpdate_on on]
  exact if_neg (Nat.not_le.mpr within)

/-- Another one is the transition there and the update with the cycles that are left. -/
theorem State.ppuUpdate_through (on : (s.peek 0xFF40).getLsbD 7 = true) (ok : s.cfg.Ok) {delta : Nat}
    (due : s.ppu.mode.duration ≤ s.ppu.modeClock + delta) {atEnd : State}
    (ended : atEnd = (s.withClock s.ppu.mode.duration false).leaveMode) :
    s.ppuUpdate delta =
      (atEnd.ppuUpdate (s.ppu.modeClock + delta - s.ppu.mode.duration)).orVblank atEnd.vblank := by
  have long := s.ppu.mode.duration_ge
  have place : atEnd = s.leaveMode.withClock 0 s.ppu.entersVblank := by
    rw [ended, State.leaveMode_withClock, Nat.sub_self, Bool.or_false]
  have still : (s.leaveMode.peek 0xFF40).getLsbD 7 = true := by
    rw [s.leaveMode_frame.peek 0xFF40 (by decide) (by rcases ok with h | h | h <;> omega)]
    exact on
  rw [place, State.ppuUpdate_on on,
    State.ppuUpdate_on (s := s.leaveMode.withClock 0 s.ppu.entersVblank) still]
  generalize hk : s.ppu.modeClock + delta - s.ppu.mode.duration = k
  have first : State.ppuLoop ((s.ppu.modeClock + delta) / 80 + 1)
      (s.withClock (s.ppu.modeClock + delta) false) =
        State.ppuLoop ((s.ppu.modeClock + delta) / 80) (s.leaveMode.withClock k s.ppu.entersVblank) := by
    refine (if_pos due).trans ?_
    rw [State.leaveMode_withClock, hk, Bool.or_false]
  have clock : (s.leaveMode.withClock 0 s.ppu.entersVblank).ppu.modeClock + k = k := Nat.zero_add k
  rw [first, State.ppuLoop_withClock, clock, State.withClock_withClock]
  exact congrArg (State.orVblank · s.ppu.entersVblank) (State.ppuLoop_bound _
    (show k < 80 * ((s.ppu.modeClock + delta) / 80) by omega) (show k < 80 * (k / 80 + 1) by omega))

end


/-! ### The place in the frame -/

/-- The cycles of the frame before the current mode begins. -/
def Ppu.modeStart (p : Ppu) : Nat := 456 * p.line + p.mode.offset

theorem Ppu.framePos_eq (p : Ppu) : p.framePos = p.modeStart + p.modeClock := rfl

theorem PpuPlace.line_lt {p : Ppu} (h : PpuPlace p) (drawing : p.mode ≠ .vblank) : p.line < 144 :=
  Nat.not_le.mp (mt h.mode.mpr drawing)

/-- Each mode lies within the frame, and line 144 begins at the end of one or outside of it. -/
theorem PpuPlace.bounds {p : Ppu} (h : PpuPlace p) :
    p.modeStart + p.mode.duration ≤ 70224 ∧
      (p.entersVblank = true ↔ p.modeStart + p.mode.duration = 65664) ∧
      (p.modeStart + p.mode.duration ≤ 65664 ∨ 65664 ≤ p.modeStart) := by
  have line := h.line
  unfold Ppu.modeStart Ppu.entersVblank
  cases mode : p.mode with
  | vblank =>
    have low : 144 ≤ p.line := h.mode.mp mode
    simp only [PpuMode.offset, PpuMode.duration, reduceCtorEq, false_and, decide_false, Bool.false_eq_true,
      false_iff]
    omega
  | hblank =>
    have low := h.line_lt (by rw [mode]; decide)
    simp only [PpuMode.offset, PpuMode.duration, true_and, decide_eq_true_eq]
    omega
  | oamScan | transfer =>
    have low := h.line_lt (by rw [mode]; decide)
    simp only [PpuMode.offset, PpuMode.duration, reduceCtorEq, false_and, decide_false, Bool.false_eq_true,
      false_iff]
    omega

/-- The next mode begins where this one ends, around the frame (R430, R431). -/
theorem State.leaveMode_modeStart {s : State} (h : PpuPlace s.ppu) :
    s.leaveMode.ppu.modeStart = (s.ppu.modeStart + s.ppu.mode.duration) % 70224 := by
  have place := s.leaveMode_place
  have line := h.line
  unfold Ppu.nextPlace at place
  unfold Ppu.modeStart
  cases mode : s.ppu.mode with
  | vblank =>
    rw [mode] at place
    dsimp only at place
    by_cases last : s.ppu.line = 153
    · rw [if_pos last, Prod.mk.injEq] at place
      rw [place.1, place.2, last]
      rfl
    · rw [if_neg last, Prod.mk.injEq] at place
      rw [place.1, place.2]
      simp only [PpuMode.offset, PpuMode.duration]
      omega
  | hblank =>
    rw [mode, Prod.mk.injEq] at place
    rw [place.1, place.2]
    have offset : PpuMode.offset (if s.ppu.line + 1 = 144 then .vblank else .oamScan) = 0 := by
      split <;> rfl
    rw [offset]
    simp only [PpuMode.offset, PpuMode.duration]
    have low := h.line_lt (by rw [mode]; decide)
    omega
  | oamScan | transfer =>
    rw [mode, Prod.mk.injEq] at place
    rw [place.1, place.2]
    simp only [PpuMode.offset, PpuMode.duration]
    have low := h.line_lt (by rw [mode]; decide)
    omega

theorem PpuOk.framePos_lt {p : Ppu} (h : PpuOk p) : p.framePos < 70224 := by
  obtain ⟨place, -, clock⟩ := (ppuOk_iff p).mp h
  obtain ⟨inside, -, -⟩ := place.bounds
  rw [Ppu.framePos_eq]
  omega

/-- How many times line 144 has begun by `x` cycles from the start of a frame (R433). -/
def vblanksBy (x : Nat) : Nat := (x + 4560) / 70224

theorem vblanksBy_lt_iff (a b : Nat) :
    vblanksBy a < vblanksBy b ↔ ∃ m, a < 65664 + 70224 * m ∧ 65664 + 70224 * m ≤ b := by
  unfold vblanksBy
  constructor
  · intro h
    exact ⟨(b + 4560) / 70224 - 1, by omega, by omega⟩
  · rintro ⟨m, lo, hi⟩
    omega

/-- Line 144 begins at the end of the mode, or in what comes after it. -/
theorem vblanksBy_step {start dur clock : Nat} (inside : start + dur ≤ 70224)
    (apart : start + dur ≤ 65664 ∨ 65664 ≤ start) (due : dur ≤ clock) (long : 80 ≤ dur) :
    vblanksBy start < vblanksBy (start + clock) ↔ start + dur = 65664 ∨
      vblanksBy ((start + dur) % 70224) < vblanksBy ((start + dur) % 70224 + (clock - dur)) := by
  unfold vblanksBy
  omega

/-- It does not begin within a mode. -/
theorem vblanksBy_within {start dur clock : Nat} (inside : start + dur ≤ 70224)
    (apart : start + dur ≤ 65664 ∨ 65664 ≤ start) (early : clock < dur) :
    vblanksBy start = vblanksBy (start + clock) := by
  unfold vblanksBy
  omega

theorem State.leaveMode_answer (s : State) : s.leaveMode.vblank = (s.ppu.entersVblank || s.vblank) :=
  congrArg State.vblank (s.leaveMode_withClock s.ppu.modeClock s.vblank)

/-- Where the loop ends in the frame, and whether it passed the start of line 144. -/
theorem State.ppuLoop_place {n : Nat} {s : State} (place : PpuPlace s.ppu)
    (enough : s.ppu.modeClock < 80 * n) :
    (State.ppuLoop n s).ppu.framePos % 70224 = s.ppu.framePos % 70224 ∧
      ((State.ppuLoop n s).vblank = true ↔
        s.vblank = true ∨ vblanksBy s.ppu.modeStart < vblanksBy s.ppu.framePos) := by
  induction n generalizing s with
  | zero => omega
  | succ n ih =>
    obtain ⟨inside, enters, apart⟩ := place.bounds
    have long := s.ppu.mode.duration_ge
    unfold State.ppuLoop
    split
    · next due =>
      have clock := s.leaveMode_modeClock
      have start := State.leaveMode_modeStart place
      obtain ⟨pos, answer⟩ := ih place.leaveMode (by omega)
      rw [pos, answer, s.leaveMode_answer, Bool.or_eq_true, enters, Ppu.framePos_eq, Ppu.framePos_eq,
        clock, start, vblanksBy_step inside apart due long, or_assoc, or_left_comm]
      exact ⟨by omega, Iff.rfl⟩
    · next early =>
      rw [Ppu.framePos_eq, ← vblanksBy_within inside apart (Nat.not_le.mp early)]
      exact ⟨rfl, (or_iff_left (lt_irrefl _)).symm⟩

/-- The place of the PPU after an update, and the answer (R431, R433). -/
theorem State.ppuUpdate_place {s : State} (on : (s.peek 0xFF40).getLsbD 7 = true) (h : PpuOk s.ppu)
    (delta : Nat) :
    (s.ppuUpdate delta).ppu.framePos = (s.ppu.framePos + delta) % 70224 ∧
      ((s.ppuUpdate delta).vblank = true ↔
        ∃ m, s.ppu.framePos < 65664 + 70224 * m ∧ 65664 + 70224 * m ≤ s.ppu.framePos + delta) := by
  have after := (h.ppuUpdate delta).framePos_lt
  obtain ⟨place, -, clock⟩ := (ppuOk_iff _).mp h
  obtain ⟨inside, -, apart⟩ := place.bounds
  have start : vblanksBy s.ppu.modeStart = vblanksBy s.ppu.framePos :=
    vblanksBy_within inside apart clock
  obtain ⟨pos, answer⟩ := State.ppuLoop_place (n := (s.ppu.modeClock + delta) / 80 + 1)
    (s := s.withClock (s.ppu.modeClock + delta) false) ⟨place.line, place.mode⟩
    (show s.ppu.modeClock + delta < _ by omega)
  have moved : (s.withClock (s.ppu.modeClock + delta) false).ppu.framePos = s.ppu.framePos + delta :=
    (Nat.add_assoc _ _ _).symm
  rw [← State.ppuUpdate_on on, moved] at pos answer
  refine ⟨by omega, ?_⟩
  rw [answer, ← vblanksBy_lt_iff, ← start]
  exact or_iff_right Bool.false_ne_true

/-! ### The bytes -/

/-- From `s` to `t` the PPU has written at most STAT[2:0], LY and IF: of IF it has set bits 0 and 1 alone,
bit 0 exactly where it has answered V-blank since (R433, R440). -/
structure PpuWrites (s t : State) : Prop where
  cfg : t.cfg = s.cfg
  others : ∀ n, n ≠ 0xFF41 → n ≠ 0xFF44 → n ≠ s.cfg.ifAddr.toNat → t.peek n = s.peek n
  stat : ∀ k, 3 ≤ k → (t.peek 0xFF41).getLsbD k = (s.peek 0xFF41).getLsbD k
  vblank : ∃ v, t.vblank = (s.vblank || v) ∧ (t.peek s.cfg.ifAddr.toNat).getLsbD 0 =
    ((s.peek s.cfg.ifAddr.toNat).getLsbD 0 || v)
  keeps : (s.peek s.cfg.ifAddr.toNat).getLsbD 1 = true → (t.peek s.cfg.ifAddr.toNat).getLsbD 1 = true
  high : ∀ k, 2 ≤ k →
    (t.peek s.cfg.ifAddr.toNat).getLsbD k = (s.peek s.cfg.ifAddr.toNat).getLsbD k

theorem PpuWrites.trans {s t u : State} (h : PpuWrites s t) (k : PpuWrites t u) : PpuWrites s u where
  cfg := k.cfg.trans h.cfg
  others := fun n a b c => (k.others n a b (h.cfg ▸ c)).trans (h.others n a b c)
  stat := fun i hi => (k.stat i hi).trans (h.stat i hi)
  vblank := by
    obtain ⟨v, answer, bit⟩ := h.vblank
    obtain ⟨w, answer', bit'⟩ := k.vblank
    rw [h.cfg] at bit'
    exact ⟨v || w, by rw [answer', answer, Bool.or_assoc], by rw [bit', bit, Bool.or_assoc]⟩
  keeps := fun on => by
    have next := k.keeps
    rw [h.cfg] at next
    exact next (h.keeps on)
  high := fun i hi => by
    have next := k.high i hi
    rw [h.cfg] at next
    exact next.trans (h.high i hi)

/-- States with the same bytes, the same answer and the same parameters. -/
theorem PpuWrites.same {s t : State} (mem : t.mem = s.mem) (cfg : t.cfg = s.cfg)
    (vblank : t.vblank = s.vblank) : PpuWrites s t := by
  have peek : ∀ n, t.peek n = s.peek n := fun n => congrArg (Memory.read · n) mem
  exact ⟨cfg, fun n _ _ _ => peek n, fun _ _ => by rw [peek], ⟨false, by rw [vblank, Bool.or_false],
    by rw [peek, Bool.or_false]⟩, fun on => by rw [peek]; exact on, fun _ _ => by rw [peek]⟩

theorem State.setMode_vblank (s : State) (m : PpuMode) : (s.setMode m).vblank = s.vblank := by
  rw [State.setMode_eq]
  cases statEnables (s.peek 0xFF41) m <;> rfl

theorem State.setLine_vblank (s : State) (n : Nat) : (s.setLine n).vblank = s.vblank := by
  rw [State.setLine_eq]
  cases decide (n = (s.peek 0xFF45).toNat) && (s.peek 0xFF41).getLsbD 6 <;> rfl

/-- A transition's stores as `statAndLine` says them: IF gains bit 1 at most. -/
theorem PpuWrites.ofRequest {s t : State} (cfg : t.cfg = s.cfg) (vblank : t.vblank = s.vblank)
    (others : ∀ n, n ≠ 0xFF41 → n ≠ 0xFF44 → n ≠ s.cfg.ifAddr.toNat → t.peek n = s.peek n)
    (stat : ∀ k, 3 ≤ k → (t.peek 0xFF41).getLsbD k = (s.peek 0xFF41).getLsbD k) {asked : Bool}
    (flag : t.peek s.cfg.ifAddr.toNat =
      if asked then s.peek s.cfg.ifAddr.toNat ||| 0x02 else s.peek s.cfg.ifAddr.toNat) :
    PpuWrites s t := by
  have bit (k : Nat) : (t.peek s.cfg.ifAddr.toNat).getLsbD k =
      ((s.peek s.cfg.ifAddr.toNat).getLsbD k || (asked && decide (k = 1))) := by
    rw [flag]
    cases asked with
    | false => exact (Bool.or_false _).symm
    | true => exact getLsbD_setBit _ 1 k (by decide)
  refine ⟨cfg, others, stat, ⟨false, by rw [vblank, Bool.or_false], ?_⟩, fun on => ?_, fun k hk => ?_⟩
  · rw [bit]
    simp
  · rw [bit, on, Bool.true_or]
  · rw [bit, decide_eq_false (by omega), Bool.and_false, Bool.or_false]

/-- Entering a mode leaves STAT's enables and coincidence bit. -/
theorem getLsbD_withMode (v : Byte) (m : PpuMode) {k : Nat} (hk : 2 ≤ k) :
    (v &&& 0xFC ||| m.code).getLsbD k = v.getLsbD k := by
  have small : ∀ k < 8, 2 ≤ k → (0xFC : Byte).getLsbD k = true ∧ m.code.getLsbD k = false := by
    cases m <;> decide
  by_cases inside : k < 8
  · obtain ⟨kept, clear⟩ := small k inside hk
    rw [BitVec.getLsbD_or, BitVec.getLsbD_and, kept, clear, Bool.and_true, Bool.or_false]
  · rw [BitVec.getLsbD_of_ge _ k (by omega), BitVec.getLsbD_of_ge _ k (by omega)]

/-- The request of interrupt 0 with the answer (R433). -/
theorem PpuWrites.ofVblank {s t : State} (mem : t.mem = (s.requestInterrupt 0).mem)
    (cfg : t.cfg = s.cfg) (vblank : t.vblank = true) (ok : s.cfg.Ok) : PpuWrites s t := by
  have peek (n : Nat) : t.peek n = (s.requestInterrupt 0).peek n := congrArg (Memory.read · n) mem
  have bit (k : Nat) : (t.peek s.cfg.ifAddr.toNat).getLsbD k =
      ((s.peek s.cfg.ifAddr.toNat).getLsbD k || decide (k = 0)) := by
    rw [peek, State.peek_requestInterrupt, if_pos rfl]
    exact getLsbD_setBit _ 0 k (by decide)
  have others (n : Nat) (hn : n ≠ s.cfg.ifAddr.toNat) : t.peek n = s.peek n := by
    rw [peek, State.peek_requestInterrupt, if_neg hn]
  refine ⟨cfg, fun n _ _ hn => others n hn, fun k _ => ?_, ⟨true, ?_, bit 0⟩,
    fun on => ?_, fun k hk => ?_⟩
  · rw [others _ (Ne.symm (Config.Ok.ifAddr_ne ok (by decide)))]
  · rw [vblank, Bool.or_true]
  · rw [bit, on, Bool.true_or]
  · rw [bit, decide_eq_false (by omega), Bool.or_false]

section
variable {s : State} (ok : s.cfg.Ok)
include ok

theorem State.setMode_writes (m : PpuMode) : PpuWrites s (s.setMode m) := by
  obtain ⟨-, -, -, flag, others, -⟩ := statAndLine s m 0 ok
  refine PpuWrites.ofRequest (s.setMode_frame m).cfg (s.setMode_vblank m) others (fun k hk => ?_) flag
  rw [s.peek_setMode ok, if_neg (fun h => Config.Ok.ifAddr_ne ok (by decide) h.1.symm),
    State.peek_withMode]
  exact getLsbD_withMode _ m (by omega)

theorem State.setLine_writes (n : Nat) : PpuWrites s (s.setLine n) := by
  obtain ⟨-, -, -, -, -, -, -, -, stat, flag, others⟩ := statAndLine s .oamScan n ok
  exact PpuWrites.ofRequest (s.setLine_frame n).cfg (s.setLine_vblank n) others
    (fun k hk => stat k (by omega)) flag

theorem State.enterVblank_writes : PpuWrites s s.enterVblank := by
  have moded := State.setMode_writes ok .vblank
  have mem : s.enterVblank.mem = ((s.setMode .vblank).requestInterrupt 0).mem := by
    unfold State.enterVblank State.drawWindow
    dsimp only
    split <;> rfl
  have cfg := s.enterVblank_frame.cfg.trans moded.cfg.symm
  exact moded.trans (PpuWrites.ofVblank mem cfg rfl (moded.cfg ▸ ok))

theorem State.leaveMode_writes : PpuWrites s s.leaveMode := by
  have ended : PpuWrites s s.endMode := PpuWrites.same rfl rfl rfl
  refine s.leaveMode_cases (fun _ => ?_) (fun _ => ?_) (fun _ _ => ?_) (fun _ _ => ?_) (fun _ _ => ?_)
    (fun _ _ => ?_)
  · exact (PpuWrites.same (s := s) (t := s.endMode.scanLine) rfl rfl rfl).trans
      (State.setMode_writes (s := s.endMode.scanLine) ok _)
  · exact (PpuWrites.same (s := s) (t := s.endMode.renderLine) rfl rfl rfl).trans
      (State.setMode_writes (s := s.endMode.renderLine) ok _)
  all_goals
    have lined (n : Nat) : PpuWrites s (s.endMode.setLine n) :=
      ended.trans (State.setLine_writes (s := s.endMode) ok n)
    have still (n : Nat) : (s.endMode.setLine n).cfg.Ok := (lined n).cfg ▸ ok
  · exact (lined _).trans (State.setMode_writes (still _) _)
  · exact (lined _).trans (State.enterVblank_writes (still _))
  · exact lined _
  · exact (lined _).trans (State.setMode_writes (still _) _)

theorem State.ppuLoop_writes (n : Nat) : PpuWrites s (State.ppuLoop n s) := by
  induction n generalizing s with
  | zero => exact PpuWrites.same rfl rfl rfl
  | succ n ih =>
    unfold State.ppuLoop
    split
    · have left := State.leaveMode_writes ok
      exact left.trans (ih (left.cfg ▸ ok))
    · exact PpuWrites.same rfl rfl rfl

end

/-! ### The update as a whole -/

/-- The device update as one update of what it can change (R365, R440). -/
theorem DeviceFrame.eq {s t : State} (h : DeviceFrame s t) (records : SameTimerApu s t) :
    t = { s with mem := t.mem, ppu := t.ppu, vblank := t.vblank } := by
  apply State.ext
  case a => exact h.a
  case f => exact h.f
  case b => exact h.b
  case c => exact h.c
  case d => exact h.d
  case e => exact h.e
  case h => exact h.h
  case l => exact h.l
  case sp => exact h.sp
  case pc => exact h.pc
  case cycles => exact h.cycles
  case halted => exact h.halted
  case ime => exact h.ime
  case pendingIE => exact h.pendingIE
  case wakePenalty => exact h.wakePenalty
  case pcOverflow => exact h.pcOverflow
  case run => exact h.run
  case rom => exact h.rom
  case mbc => exact h.mbc
  case extRam => exact h.extRam
  case timer => exact records.1
  case apu => exact records.2
  case signals => exact h.signals
  case inputReads => exact h.inputReads
  case romDraws => exact h.romDraws
  case cfg => exact h.cfg
  all_goals rfl

/-- Settles O51: the loop's place and answer, its bytes, one transition at a time, and the six
transitions. -/
theorem ppuTiming : Obligations.PpuTiming := by
  refine ⟨fun s delta => ?_, fun s => ?_⟩
  · intro t f due atEnd rest
    have duration : due = s.ppu.mode.duration := by
      show (match s.ppu.mode with | .oamScan => 80 | .transfer => 172 | .hblank => 204 | .vblank => 456) = _
      cases s.ppu.mode <;> rfl
    refine ⟨fun on h => ?_, fun on within => ?_, fun on _ ok past => ?_, fun on _ ok => ?_, fun off => ?_⟩
    · obtain ⟨pos, answer⟩ := State.ppuUpdate_place on h delta
      exact ⟨pos, h.ppuUpdate delta, answer,
        (s.ppuUpdate_frame delta).eq (s.ppuUpdate_timerApu delta)⟩
    · exact State.ppuUpdate_within on (duration ▸ within)
    · rw [duration] at past
      have through := State.ppuUpdate_through on ok past (atEnd := atEnd) (by rw [← duration]; rfl)
      rw [← duration] at through
      exact through
    · have writes : PpuWrites (s.withClock (s.ppu.modeClock + delta) false) t := by
        rw [show t = _ from State.ppuUpdate_on on delta]
        exact State.ppuLoop_writes (s := s.withClock (s.ppu.modeClock + delta) false) ok _
      obtain ⟨v, answer, flag⟩ := writes.vblank
      have same : t.vblank = v := answer
      exact ⟨writes.others, writes.stat, same ▸ flag, writes.keeps, writes.high⟩
    · exact State.ppuUpdate_off off delta
  · intro less
    have ended {m : PpuMode} (mode : s.ppu.mode = m) : s.endMode = less m.duration := by
      rw [State.endMode, mode]
    refine ⟨fun mode => ?_, fun mode => ?_, fun mode line => ?_, fun mode line => ?_, fun mode line => ?_,
      fun mode line => ?_⟩
    · rw [State.leaveMode_oamScan mode, ended mode]
      rfl
    · rw [State.leaveMode_transfer mode, ended mode]
      rfl
    · rw [State.leaveMode_hblank mode line, ended mode]
      rfl
    · rw [State.leaveMode_lastLine mode line, ended mode]
      rfl
    · rw [State.leaveMode_vblank mode line, ended mode]
      rfl
    · rw [State.leaveMode_lastVblank mode line, ended mode]
      rfl

end Sys2Proof.Machine
end

section
/-!
PROOFS. What the PPU composes (R424 to R426, R445 to R448): pixels, shades and maps by number; the
background line with the sprites over it, the sprite cache, and the window over the frame.
-/

namespace Sys2Proof.Machine

/-! ### Pixels, shades and maps by number -/

/-- The colour index in a tile's row and column, from the two bits of it (R425). -/
def tilePixel (m : Memory) (tile row : Int) (col : Nat) : Nat :=
  2 * ((vramByte m (tile + 2 * row + 1)).getLsbD (7 - col)).toNat +
    ((vramByte m (tile + 2 * row)).getLsbD (7 - col)).toNat

theorem toNat_bit (v : Byte) (k : Nat) :
    ((v >>> k).extractLsb' 0 1).toNat = (v.getLsbD k).toNat := by
  rw [BitVec.extractLsb'_toNat, BitVec.toNat_ushiftRight, Nat.shiftRight_zero, BitVec.getLsbD,
    Nat.testBit_eq_decide_div_mod_eq, Nat.shiftRight_eq_div_pow]
  have := Nat.mod_two_eq_zero_or_one (v.toNat / 2 ^ k)
  rcases this with h | h <;> simp [h]

theorem toNat_append_bits (hi lo : BitVec 1) : (hi ++ lo).toNat = 2 * hi.toNat + lo.toNat := by
  revert hi lo
  decide

theorem toNat_pixel (m : Memory) (tile row : Int) (col : Nat) :
    (pixel m tile row col).toNat = tilePixel m tile row col := by
  rw [pixel, tilePixel]
  exact (toNat_append_bits _ _).trans (by rw [toNat_bit, toNat_bit])

/-- A shade as two bits of the palette, by its number (R424). -/
theorem shade_eq (palette : Byte) (idx : BitVec 2) :
    shade palette idx = BitVec.ofNat 2 (palette.toNat / 4 ^ idx.toNat) := by
  revert palette idx
  decide

theorem toNat_mapPixel (m : Memory) (lcdc : Byte) (select : Bool) (py px : Nat) :
    (mapPixel m lcdc (mapBase select) py px).toNat =
      tilePixel m (tileAddr lcdc
        (Memory.read m ((if select then 0x9C00 else 0x9800) + 32 * (py / 8) + px / 8)))
        (py % 8 : Nat) (px % 8) :=
  toNat_pixel _ _ _ _

/-! ### The background line -/

theorem getD_bgLine (m : Memory) (ly : Nat) {x : Nat} (hx : x < 160) :
    (bgLine m ly).getD x 0 = if (Memory.read m 0xFF40).getLsbD 0 then
      mapPixel m (Memory.read m 0xFF40) (mapBase ((Memory.read m 0xFF40).getLsbD 3))
        ((ly + (Memory.read m 0xFF42).toNat) % 256) ((x + (Memory.read m 0xFF43).toNat) % 256)
      else 0 := by
  simp [bgLine, List.getD_eq_getElem?_getD, hx]

theorem getD_bgShades (m : Memory) (idx : List (BitVec 2)) {x : Nat} (hx : x < idx.length) :
    (bgShades m idx).getD x 0 = if (Memory.read m 0xFF40).getLsbD 0 then
      shade (Memory.read m 0xFF47) (idx.getD x 0) else 0 := by
  simp [bgShades, List.getD_eq_getElem?_getD, hx]

theorem getD_set_self {α : Type} {l : List α} {i : Nat} (hi : i < l.length) (v d : α) :
    (l.set i v).getD i d = v := by
  rw [List.getD_eq_getElem?_getD, List.getElem?_set_self hi, Option.getD_some]

/-- The line that is composed over the background, column by column (R445, R447). -/
theorem State.getD_renderLine (s : State) (rows : s.ppu.fb.length = 144) (ly : s.ppu.line < 144) {x : Nat}
    (hx : x < 160) : (s.renderLine.ppu.fb.getD s.ppu.line []).getD x 0 =
      if (Memory.read s.mem 0xFF40).getLsbD 1 then
        spriteColumn s.mem s.ppu.line s.ppu.sprites x ((bgLine s.mem s.ppu.line).getD x 0)
          ((bgShades s.mem (bgLine s.mem s.ppu.line)).getD x 0)
      else (bgShades s.mem (bgLine s.mem s.ppu.line)).getD x 0 := by
  have inside : s.ppu.line < s.ppu.fb.length := rows ▸ ly
  unfold State.renderLine
  dsimp only
  rw [getD_set_self inside]
  split
  · simp [List.getD_eq_getElem?_getD, hx]
  · rfl

theorem State.getD_renderLine_of_ne (s : State) {y : Nat} (hy : y ≠ s.ppu.line) :
    s.renderLine.ppu.fb.getD y [] = s.ppu.fb.getD y [] := by
  unfold State.renderLine
  dsimp only
  rw [List.getD_eq_getElem?_getD, List.getElem?_set_ne (Ne.symm hy), ← List.getD_eq_getElem?_getD]

/-! ### Sprites over the line -/

theorem and_FE (v : Byte) : (v &&& 0xFE).toNat = v.toNat / 2 * 2 := by
  revert v
  decide

/-- The colour index of a sprite in a column, by number (R447). -/
theorem toNat_spritePixel (m : Memory) (ly n x : Nat) :
    (spritePixel m ly n x).toNat =
      if (oamByte m n 1).toNat ≤ x + 8 ∧ x < (oamByte m n 1).toNat then
        tilePixel m
          (0x8000 + 16 * ((if spriteHeight m = 16 then (oamByte m n 2).toNat / 2 * 2
            else (oamByte m n 2).toNat : Nat) : Int))
          (if (oamByte m n 3).getLsbD 6 then spriteHeight m - 1 - ((ly : Int) - ((oamByte m n 0).toNat - 16))
            else (ly : Int) - ((oamByte m n 0).toNat - 16))
          (if (oamByte m n 3).getLsbD 5 then 7 - (x + 8 - (oamByte m n 1).toNat)
            else x + 8 - (oamByte m n 1).toNat)
      else 0 := by
  unfold spritePixel
  dsimp only
  by_cases column : (oamByte m n 1).toNat ≤ x + 8 ∧ x < (oamByte m n 1).toNat
  · rw [if_pos column, if_pos ⟨column.1, Nat.add_lt_add_right column.2 8⟩, toNat_pixel]
    by_cases tall : spriteHeight m = 16
    · rw [if_pos tall, if_pos tall, and_FE]
    · rw [if_neg tall, if_neg tall]
  · rw [if_neg column, if_neg fun h => column ⟨h.1, Nat.lt_of_add_lt_add_right h.2⟩]
    rfl

theorem spriteColumn_transparent {m : Memory} {ly x : Nat} {sprites : List Nat} (bg under : BitVec 2)
    (clear : ∀ n ∈ sprites, spritePixel m ly n x = 0) :
    spriteColumn m ly sprites x bg under = under := by
  have none : sprites.find? (fun n => spritePixel m ly n x != 0) = none :=
    List.find?_eq_none.mpr fun n hn => by simp [clear n hn]
  rw [spriteColumn, none]

/-- The first opaque sprite takes the column (R447). -/
theorem spriteColumn_opaque {m : Memory} {ly x n : Nat} {before after : List Nat} (bg under : BitVec 2)
    (clear : ∀ k ∈ before, spritePixel m ly k x = 0) (shows : spritePixel m ly n x ≠ 0) :
    spriteColumn m ly (before ++ n :: after) x bg under =
      if (oamByte m n 3).getLsbD 7 && bg != 0 then under
      else shade (Memory.read m (if (oamByte m n 3).getLsbD 4 then 0xFF49 else 0xFF48))
        (spritePixel m ly n x) := by
  have first : (before ++ n :: after).find? (fun n => spritePixel m ly n x != 0) = some n := by
    rw [List.find?_append, List.find?_eq_none.mpr fun k hk => by simp [clear k hk], Option.none_or,
      List.find?_cons_of_pos (by simpa using shows)]
  rw [spriteColumn, first]

/-! ### The sprite cache -/

theorem perm_insertByX (m : Memory) (n : Nat) (ks : List Nat) : (insertByX m n ks).Perm (n :: ks) := by
  induction ks with
  | nil => exact List.Perm.refl _
  | cons k ks ih =>
    unfold insertByX
    split
    · exact List.Perm.refl _
    · exact (ih.cons k).trans (List.Perm.swap n k ks)

/-- The order of the cache: by X, and by number where X is the same (R446). -/
def Earlier (m : Memory) (i j : Nat) : Prop :=
  (oamByte m i 1).toNat < (oamByte m j 1).toNat ∨
    ((oamByte m i 1).toNat = (oamByte m j 1).toNat ∧ i < j)

/-- An entry of a higher number than all before it keeps the order. -/
theorem pairwise_insertByX {m : Memory} {n : Nat} {ks : List Nat} (sorted : ks.Pairwise (Earlier m))
    (last : ∀ k ∈ ks, k < n) : (insertByX m n ks).Pairwise (Earlier m) := by
  induction ks with
  | nil => exact List.pairwise_singleton _ _
  | cons k ks ih =>
    obtain ⟨first, rest⟩ := List.pairwise_cons.mp sorted
    unfold insertByX
    split
    · next less =>
      refine List.pairwise_cons.mpr ⟨fun j hj => ?_, sorted⟩
      rcases List.mem_cons.mp hj with rfl | hj
      · exact .inl less
      · refine .inl ?_
        rcases first j hj with lt | ⟨eq, -⟩ <;> omega
    · next notLess =>
      refine List.pairwise_cons.mpr ⟨fun j hj => ?_,
        ih rest fun j hj => last j (List.mem_cons_of_mem _ hj)⟩
      rcases mem_insertByX hj with rfl | hj
      · have lower := last k List.mem_cons_self
        unfold Earlier
        omega
      · exact first j hj

/-- Entries inserted in rising order, each after those of its X, make a sorted cache. -/
theorem sorted_foldl_insertByX (m : Memory) {ns : List Nat} (rising : ns.Pairwise (· < ·)) {acc : List Nat}
    (sorted : acc.Pairwise (Earlier m)) (apart : ∀ k ∈ acc, ∀ n ∈ ns, k < n) :
    (ns.foldl (fun acc n => insertByX m n acc) acc).Perm (acc ++ ns) ∧
      (ns.foldl (fun acc n => insertByX m n acc) acc).Pairwise (Earlier m) := by
  induction ns generalizing acc with
  | nil => exact ⟨by rw [List.append_nil]; exact List.Perm.refl _, sorted⟩
  | cons n ns ih =>
    obtain ⟨least, rest⟩ := List.pairwise_cons.mp rising
    have placed := pairwise_insertByX sorted fun k hk => apart k hk n List.mem_cons_self
    obtain ⟨perm, order⟩ := ih rest placed fun k hk j hj => by
      rcases mem_insertByX hk with rfl | hk
      · exact least j hj
      · exact apart k hk j (List.mem_cons_of_mem _ hj)
    refine ⟨perm.trans ?_, order⟩
    exact ((perm_insertByX m n acc).append_right ns).trans List.perm_middle.symm

theorem scanOam_sorted (m : Memory) (ly : Nat) :
    (scanOam m ly).Perm (((List.range 40).filter (spriteOnLine m ly)).take 10) ∧
      (scanOam m ly).Pairwise (Earlier m) := by
  have rising : (((List.range 40).filter (spriteOnLine m ly)).take 10).Pairwise (· < ·) :=
    (List.pairwise_lt_range.filter _).sublist (List.take_sublist _ _)
  exact sorted_foldl_insertByX m rising List.Pairwise.nil fun k hk => absurd hk List.not_mem_nil

/-! ### The window over the frame -/

theorem State.drawWindow_only (s : State) :
    s.drawWindow = { s with ppu := { s.ppu with fb := s.drawWindow.ppu.fb } } := by
  unfold State.drawWindow
  split <;> rfl

theorem State.getD_drawWindow (s : State) (h : PpuBuffers s.ppu) {x y : Nat} (hx : x < 160)
    (hy : y < 144) : (s.drawWindow.ppu.fb.getD y []).getD x 0 =
      if (s.peek 0xFF40).getLsbD 5 then windowPixel s.mem y x ((s.ppu.fb.getD y []).getD x 0)
      else (s.ppu.fb.getD y []).getD x 0 := by
  have row : y < s.ppu.fb.length := h.rows ▸ hy
  have column : x < s.ppu.fb[y].length := h.columns _ (List.getElem_mem row) ▸ hx
  unfold State.drawWindow
  split
  · simp [List.getD_eq_getElem?_getD, row, column]
  · rfl

/-- Two arrays that the window is the same over: all that the PPU reads for it but the frame. -/
structure SameWindow (m k : Memory) : Prop where
  low : ∀ n, n < 0xFF00 → Memory.read m n = Memory.read k n
  lcdc : Memory.read m 0xFF40 = Memory.read k 0xFF40
  bgp : Memory.read m 0xFF47 = Memory.read k 0xFF47
  wy : Memory.read m 0xFF4A = Memory.read k 0xFF4A
  wx : Memory.read m 0xFF4B = Memory.read k 0xFF4B

theorem tileAddr_bounds (lcdc t : Byte) : 0x8000 ≤ tileAddr lcdc t ∧ tileAddr lcdc t ≤ 0x97F0 := by
  have unsigned := t.isLt
  have low := t.le_toInt
  have high := t.toInt_lt
  unfold tileAddr
  split <;> omega

/-- The pixels of a map of tiles are read below the I/O registers. -/
theorem SameWindow.mapPixel {m k : Memory} (h : SameWindow m k) (lcdc : Byte) (select : Bool) {py px : Nat}
    (hy : py < 256) (hx : px < 256) :
    mapPixel m lcdc (mapBase select) py px = mapPixel k lcdc (mapBase select) py px := by
  have base : mapBase select ≤ 0x9C00 := by cases select <;> decide
  have tile : Memory.read m (mapBase select + 32 * (py / 8) + px / 8) =
      Memory.read k (mapBase select + 32 * (py / 8) + px / 8) := h.low _ (by omega)
  obtain ⟨lo, hi⟩ := tileAddr_bounds lcdc (Memory.read k (mapBase select + 32 * (py / 8) + px / 8))
  have byte (n : Int) (lo : 0 ≤ n) (hi : n < 0xFF00) : vramByte m n = vramByte k n := h.low _ (by omega)
  unfold Machine.mapPixel pixel
  rw [tile]
  dsimp only
  rw [byte _ (by omega) (by omega), byte _ (by omega) (by omega)]

theorem SameWindow.windowPixel {m k : Memory} (h : SameWindow m k) {y x : Nat} (hy : y < 144)
    (hx : x < 160) (under : BitVec 2) : windowPixel m y x under = windowPixel k y x under := by
  unfold Machine.windowPixel
  rw [h.lcdc, h.bgp, h.wy, h.wx]
  dsimp only
  rw [h.mapPixel _ _ (by omega) (by omega)]

theorem State.drawWindow_congr {s t : State} (h : PpuBuffers s.ppu) (fb : t.ppu.fb = s.ppu.fb)
    (same : SameWindow t.mem s.mem) : t.drawWindow.ppu.fb = s.drawWindow.ppu.fb := by
  have lcdc : t.peek 0xFF40 = s.peek 0xFF40 := same.lcdc
  unfold State.drawWindow
  rw [lcdc]
  split
  · dsimp only
    rw [fb]
    refine List.mapIdx_eq_mapIdx_iff.mpr fun y hy => List.mapIdx_eq_mapIdx_iff.mpr fun x hx => ?_
    exact same.windowPixel (h.rows ▸ hy) (h.columns _ (List.getElem_mem hy) ▸ hx) _
  · exact fb

/-- The window is drawn over the frame as the lines of it were composed (R433, R448). -/
theorem State.enterVblank_fb {s : State} (ok : s.cfg.Ok) (h : PpuBuffers s.ppu) :
    (s.endMode.setLine 144).enterVblank.ppu.fb = s.drawWindow.ppu.fb := by
  have lined : PpuWrites s (s.endMode.setLine 144) :=
    (PpuWrites.same (s := s) (t := s.endMode) rfl rfl rfl).trans
      (State.setLine_writes (s := s.endMode) ok 144)
  have moded := lined.trans (State.setMode_writes (lined.cfg ▸ ok) .vblank)
  let u := ((s.endMode.setLine 144).setMode .vblank).requestInterrupt 0
  have peek (n : Nat) (stat : n ≠ 0xFF41) (ly : n ≠ 0xFF44) (flag : n ≠ s.cfg.ifAddr.toNat) :
      u.peek n = s.peek n := by
    refine Eq.trans ?_ (moded.others n stat ly flag)
    rw [State.peek_requestInterrupt, moded.cfg, if_neg flag]
  have fb : u.ppu.fb = s.ppu.fb := by simp [u]
  refine State.drawWindow_congr (t := u) h fb ⟨fun n hn => peek n (by omega) (by omega) ?_,
    peek _ (by decide) (by decide) ?_, peek _ (by decide) (by decide) ?_,
    peek _ (by decide) (by decide) ?_, peek _ (by decide) (by decide) ?_⟩
  all_goals rcases ok with h | h | h <;> omega

/-- Settles O53: the background and the sprites of a line pixel by pixel, the sorted cache, the window,
and the transition that does each. -/
theorem composition : Obligations.Composition := by
  intro s x y hx hy ppu lcdc ly bit pixelOf shadeOf tileOf mapped oam height shows shown bg under r w kept
  obtain ⟨-, buffers, -⟩ := (ppuOk_iff _).mp ppu
  have mappedPixel (select : Bool) (py px : Nat) :
      (mapPixel s.mem lcdc (mapBase select) py px).toNat = mapped select py px :=
    toNat_mapPixel _ _ _ _ _
  have shaded (pal : Nat) (idx : BitVec 2) : shade (s.peek pal) idx = shadeOf pal idx.toNat := shade_eq _ _
  have spriteShows (n : Nat) : (spritePixel s.mem ly n x).toNat = shows n := toNat_spritePixel _ _ _ _
  have clear (n : Nat) : spritePixel s.mem ly n x = 0 ↔ shows n = 0 := by
    rw [← spriteShows, ← BitVec.toNat_inj]
    rfl
  have background : ((bgLine s.mem ly).getD x 0).toNat = bg := by
    rw [getD_bgLine s.mem ly hx]
    show BitVec.toNat (if lcdc.getLsbD 0 then _ else _) = if lcdc.getLsbD 0 then _ else _
    split
    · exact mappedPixel _ _ _
    · rfl
  have shadow : (bgShades s.mem (bgLine s.mem ly)).getD x 0 = under := by
    rw [getD_bgShades _ _ (by rwa [length_bgLine])]
    show (if lcdc.getLsbD 0 then shade (s.peek 0xFF47) _ else 0) = if lcdc.getLsbD 0 then _ else _
    rw [shaded, background]
  have drawn (hly : ly < 144) : shown r ly x = if lcdc.getLsbD 1 then
      spriteColumn s.mem ly s.ppu.sprites x ((bgLine s.mem ly).getD x 0) under else under := by
    rw [← shadow]
    exact s.getD_renderLine buffers.rows hly hx
  refine ⟨rfl, background, fun hne => ?_, fun hly none => ?_,
    fun hly on before n after cache first opaq => ?_, rfl, ?_, ?_, ?_, ?_, fun mode => ?_, fun mode => ?_, fun ok mode => ?_, fun mode => ?_⟩
  · exact congrArg (List.getD · x 0) (s.getD_renderLine_of_ne hne)
  · rw [drawn hly]
    split
    · next on =>
      have all := none.resolve_left (by rw [on]; decide)
      exact spriteColumn_transparent _ _ fun n hn => (clear n).mpr (all n hn)
    · rfl
  · rw [drawn hly, if_pos on, cache, spriteColumn_opaque _ _ (fun k hk => (clear k).mpr (first k hk))
      (mt (clear n).mp opaq)]
    have behind : ((oamByte s.mem n 3).getLsbD 7 && (bgLine s.mem ly).getD x 0 != 0) = true ↔
        (oam n 3).testBit 7 ∧ bg ≠ 0 := by
      rw [Bool.and_eq_true, bne_iff_ne, ← background]
      exact and_congr_right' (not_congr BitVec.toNat_inj.symm)
    refine if_congr behind rfl ?_
    rw [← spriteShows]
    exact shaded _ _
  · have covers : spriteOnLine s.mem ly = fun n =>
        decide (oam n 0 ≤ ly + 16 ∧ ly + 16 < oam n 0 + height ∧ oam n 1 ≤ 168) := by
      funext n
      rw [Bool.decide_and, Bool.decide_and, ← Bool.and_assoc]
      rfl
    have sorted := (scanOam_sorted s.mem ly).1
    rw [covers] at sorted
    exact sorted
  · exact (scanOam_sorted s.mem ly).2
  · exact s.drawWindow_only
  · refine (s.getD_drawWindow buffers hx hy).trans ?_
    show (if lcdc.getLsbD 5 then windowPixel s.mem y x (shown s y x) else shown s y x) = _
    by_cases on : lcdc.getLsbD 5 = true
    · rw [if_pos on, windowPixel]
      refine if_congr (by simp only [on, true_and]; rfl) ?_ rfl
      exact (shaded _ _).trans (congrArg (shadeOf 0xFF47) (mappedPixel _ _ _))
    · rw [if_neg on, if_neg fun h => on h.1]
  · rw [State.leaveMode_oamScan mode, State.setMode_ppu]
    exact ⟨rfl, rfl⟩
  · rw [State.leaveMode_transfer mode, State.setMode_ppu]
    exact ⟨rfl, rfl⟩
  · by_cases last : ly = 143
    · rw [if_pos last, State.leaveMode_lastLine mode last]
      exact State.enterVblank_fb ok buffers
    · rw [if_neg last, State.leaveMode_hblank mode last, State.setMode_ppu, State.setLine_ppu]
      rfl
  · by_cases last : s.ppu.line = 153
    · rw [State.leaveMode_lastVblank mode last, State.setMode_ppu, State.setLine_ppu]
      rfl
    · rw [State.leaveMode_vblank mode last, State.setLine_ppu]
      rfl

end Sys2Proof.Machine
end

section
/-!
PROOFS. The APU's registers (R471, R473, R485): the power switch, stores with the power off, and what a
store to each register does with it on.
-/

namespace Sys2Proof.Machine

/-! ### The power switch -/

section
variable (s : State) (v : Byte)

/-- A store to NR52 as the power switch on the array, and bit 7 kept (R471). -/
theorem State.busWrite_atNr52 : s.busWrite 0xFF26 v =
    { s with
      mem := (s.apu.powerSwitch (Memory.write s.mem 0xFF26 v) (v.getLsbD 7)).1
      apu := (s.apu.powerSwitch (Memory.write s.mem 0xFF26 v) (v.getLsbD 7)).2 }.poke 0xFF26
        (v &&& 0x80) := rfl

variable {s v}

/-- The array and the APU after a store to NR52, from what the power switch gives. -/
theorem State.nr52_of_switch {m : Memory} {u : Apu}
    (switch : s.apu.powerSwitch (Memory.write s.mem 0xFF26 v) (v.getLsbD 7) = (m, u)) :
    (s.busWrite 0xFF26 v).apu = u ∧
      ∀ n, n ≠ 0xFF26 → (s.busWrite 0xFF26 v).peek n = Memory.read m n := by
  rw [State.busWrite_atNr52, switch]
  exact ⟨rfl, fun n hn => State.peek_poke_of_ne _ _ hn⟩

/-- Power off: the registers zero, the channels silenced (R471). -/
theorem State.nr52_off (on : s.apu.power = true) (off : v.getLsbD 7 = false) :
    (s.busWrite 0xFF26 v).apu = s.apu.powerOff ∧
      ∀ n, 0xFF10 ≤ n → n ≤ 0xFF25 → (s.busWrite 0xFF26 v).peek n = 0 := by
  have switch : s.apu.powerSwitch (Memory.write s.mem 0xFF26 v) (v.getLsbD 7) =
      (clearApuRegisters (Memory.write s.mem 0xFF26 v), s.apu.powerOff) :=
    if_pos (by rw [on, off]; rfl)
  obtain ⟨apu, peek⟩ := State.nr52_of_switch switch
  refine ⟨apu, fun n lo hi => ?_⟩
  rw [peek n (by omega), read_clearApuRegisters, if_pos ⟨lo, hi⟩]

/-- Power on from off (R471). -/
theorem State.nr52_on (off : s.apu.power = false) (on : v.getLsbD 7 = true) :
    (s.busWrite 0xFF26 v).apu = Apu.powerOn ∧
      ∀ n, n ≠ 0xFF26 → (s.busWrite 0xFF26 v).peek n = s.peek n := by
  have switch : s.apu.powerSwitch (Memory.write s.mem 0xFF26 v) (v.getLsbD 7) =
      (Memory.write s.mem 0xFF26 v, Apu.powerOn) := by simp [Apu.powerSwitch, on, off]
  obtain ⟨apu, peek⟩ := State.nr52_of_switch switch
  exact ⟨apu, fun n hn => (peek n hn).trans (Memory.read_write_of_ne _ _ hn)⟩

/-- The power asked for is the power there is (R471). -/
theorem State.nr52_same (same : s.apu.power = v.getLsbD 7) :
    (s.busWrite 0xFF26 v).apu = s.apu ∧
      ∀ n, n ≠ 0xFF26 → (s.busWrite 0xFF26 v).peek n = s.peek n := by
  have switch : s.apu.powerSwitch (Memory.write s.mem 0xFF26 v) (v.getLsbD 7) =
      (Memory.write s.mem 0xFF26 v, s.apu) := by simp [Apu.powerSwitch, same]
  obtain ⟨apu, peek⟩ := State.nr52_of_switch switch
  exact ⟨apu, fun n hn => (peek n hn).trans (Memory.read_write_of_ne _ _ hn)⟩

end

/-- A store in the APU's window with the power off: a register's is undone (R473). -/
theorem State.busWrite_unpowered {s : State} (off : s.apu.power = false) {a : Word} (v : Byte)
    (lo : 0xFF10 ≤ a.toNat) (hi : a.toNat ≤ 0xFF3F) (not52 : a.toNat ≠ 0xFF26) :
    s.busWrite a v = if a.toNat ≤ 0xFF25 then (s.poke a.toNat v).poke a.toNat 0
      else s.poke a.toNat v := by
  rw [State.busWrite_atApu lo hi, State.apuWrite, if_neg not52, State.poke_apu, off]
  rfl

/-- Settles O54: the three cases of the switch, and the two of a store with the power off. -/
theorem apuPower : Obligations.ApuPower := by
  intro s v a t u
  have bytes (n : Nat) (hn : 0xFF27 ≤ n ∨ n < 0xFF10) : t.peek n = s.peek n :=
    s.peek_busWrite 0xFF26 v (show ¬ (0xFF10 ≤ n ∧ n ≤ 0xFF26) by omega)
  refine ⟨?_, ?_, bytes, fun on off => ?_, fun off on => ?_, fun same => ?_, fun off lo hi => ?_,
    fun off lo hi => ?_⟩
  · exact (State.peek_poke_self _ _ _).trans (and_power_bit v)
  · cases power : u.power <;> cases asked : v.getLsbD 7
    · exact (congrArg Apu.power (State.nr52_same (power.trans asked.symm)).1).trans power
    · exact congrArg Apu.power (State.nr52_on power asked).1
    · exact congrArg Apu.power (State.nr52_off power asked).1
    · exact (congrArg Apu.power (State.nr52_same (power.trans asked.symm)).1).trans power
  · obtain ⟨apu, zero⟩ := State.nr52_off on off
    exact ⟨zero, apu ▸ u.status_powerOff, apu⟩
  · exact (State.nr52_on off on).symm
  · exact (State.nr52_same same).symm
  · rw [State.busWrite_unpowered off v lo (by omega) (by omega), if_pos hi]
    refine ⟨fun n => ?_, rfl⟩
    rw [State.peek_poke, State.peek_poke]
    split <;> rfl
  · rw [State.busWrite_unpowered off v (by omega) hi (by omega), if_neg (by omega)]
    exact ⟨fun n => s.peek_poke _ v n, rfl⟩

/-! ### Register fields by number -/

/-- A field of a byte or word by its number. -/
theorem extractLsb'_eq_ofNat {w : Nat} (v : BitVec w) (start len : Nat) :
    v.extractLsb' start len = BitVec.ofNat len (v.toNat / 2 ^ start) := by
  apply BitVec.eq_of_toNat_eq
  rw [BitVec.extractLsb'_toNat, BitVec.toNat_ofNat, Nat.shiftRight_eq_div_pow]

theorem dacOn_eq (v : Byte) : dacOn v = decide (8 ≤ v.toNat) := by
  revert v
  decide

theorem lengthLoad64_eq (v : Byte) : lengthLoad64 v = 64 - v.toNat % 64 := by
  rw [lengthLoad64, extractLsb'_eq_ofNat, BitVec.toNat_ofNat, Nat.pow_zero, Nat.div_one]

theorem toNat_append {n m : Nat} (hi : BitVec n) (lo : BitVec m) :
    (hi ++ lo).toNat = hi.toNat * 2 ^ m + lo.toNat := by
  rw [BitVec.toNat_append, ← Nat.shiftLeft_add_eq_or_of_lt lo.isLt, Nat.shiftLeft_eq]

theorem freqLow_eq (f : BitVec 11) (v : Byte) :
    freqLow f v = BitVec.ofNat 11 (f.toNat / 256 * 256 + v.toNat) := by
  have hf := f.isLt
  have hv := v.isLt
  apply BitVec.eq_of_toNat_eq
  rw [freqLow, toNat_append, extractLsb'_eq_ofNat, BitVec.toNat_ofNat, BitVec.toNat_ofNat]
  omega

theorem freqHigh_eq (f : BitVec 11) (v : Byte) :
    freqHigh f v = BitVec.ofNat 11 (256 * (v.toNat % 8) + f.toNat % 256) := by
  apply BitVec.eq_of_toNat_eq
  rw [freqHigh, toNat_append, extractLsb'_eq_ofNat, extractLsb'_eq_ofNat, BitVec.toNat_ofNat,
    BitVec.toNat_ofNat, BitVec.toNat_ofNat]
  omega

theorem noisePeriod_eq (v : Byte) : noisePeriod v =
    ([8, 16, 32, 48, 64, 80, 96, 112] : List Nat).getD (v.toNat % 8) 0 * 2 ^ (v.toNat / 16) := by
  revert v
  decide

/-! ### Stores with the power on -/

section
variable {s : State} (on : s.apu.power = true) (v : Byte)
include on

theorem State.busWrite_powered {a : Word} (lo : 0xFF10 ≤ a.toNat) (hi : a.toNat ≤ 0xFF3F)
    (not52 : a.toNat ≠ 0xFF26) :
    s.busWrite a v = { s.poke a.toNat v with
      apu := s.apu.writeRegister (Memory.write s.mem a.toNat v) a.toNat v } := by
  rw [State.busWrite_atApu lo hi, State.apuWrite, if_neg not52, State.poke_apu, on]
  rfl

theorem State.apu_busWrite {a : Word} (lo : 0xFF10 ≤ a.toNat) (hi : a.toNat ≤ 0xFF3F)
    (not52 : a.toNat ≠ 0xFF26) : (s.busWrite a v).apu =
      s.apu.writeRegister (Memory.write s.mem a.toNat v) a.toNat v := by
  rw [State.busWrite_powered on v lo hi not52]

end

/-- The registers that are memory alone (R473). -/
theorem Apu.writeRegister_memoryOnly (u : Apu) (m : Memory) (v : Byte) {n : Nat}
    (h : n ∈ [0xFF10, 0xFF15, 0xFF1C, 0xFF1F, 0xFF22, 0xFF24, 0xFF25] ∨ 0xFF27 ≤ n) :
    u.writeRegister m n v = u := by
  simp only [List.mem_cons, List.not_mem_nil, or_false] at h
  unfold Apu.writeRegister
  rw [if_neg (by omega), if_neg (by omega), if_neg (by omega), if_neg (by omega), if_neg (by omega),
    if_neg (by omega), if_neg (by omega), if_neg (by omega), if_neg (by omega), if_neg (by omega),
    if_neg (by omega), if_neg (by omega), if_neg (by omega), if_neg (by omega), if_neg (by omega)]

section
variable (u : Apu) (m : Memory) (v : Byte)

theorem Pulse.writeEnvelope_eq (ch : Pulse) : ch.writeEnvelope v =
    { ch with enabled := ch.enabled && decide (8 ≤ v.toNat) } := by
  rw [Pulse.writeEnvelope, dacOn_eq]

variable {v}

/-- A control register without bit 7: the length enable, and the frequency's high bits (R473). -/
theorem Pulse.writeControl_off (ch : Pulse) (nr2 : Byte) (off : v.getLsbD 7 = false) :
    ch.writeControl nr2 v = { ch with lenEn := v.getLsbD 6, freq := freqHigh ch.freq v } :=
  if_neg (by rw [off]; decide)

theorem Wave.writeControl_off (ch : Wave) (nr30 : Byte) (off : v.getLsbD 7 = false) :
    ch.writeControl nr30 v = { ch with lenEn := v.getLsbD 6, freq := freqHigh ch.freq v } :=
  if_neg (by rw [off]; decide)

theorem Noise.writeControl_off (ch : Noise) (nr42 nr43 : Byte) (off : v.getLsbD 7 = false) :
    ch.writeControl nr42 nr43 v = { ch with lenEn := v.getLsbD 6 } :=
  if_neg (by rw [off]; decide)

theorem Apu.writeNr14_off (off : v.getLsbD 7 = false) :
    u.writeNr14 m v = { u with ch1 := u.ch1.writeControl (Memory.read m 0xFF12) v } :=
  if_neg (by rw [off]; decide)

/-- With bit 7: the trigger after it (R473, R485). -/
theorem Pulse.writeControl_on (ch : Pulse) (nr2 : Byte) (on : v.getLsbD 7 = true) :
    ch.writeControl nr2 v = { ch with
      lenEn := v.getLsbD 6, freq := freqHigh ch.freq v, enabled := decide (8 ≤ nr2.toNat)
      length := if ch.length = 0 then 64 else ch.length
      envTimer := BitVec.ofNat 3 nr2.toNat, vol := BitVec.ofNat 4 (nr2.toNat / 16)
      freqTimer := (2048 - (freqHigh ch.freq v).toNat) * 4 } := by
  refine (if_pos on).trans ?_
  rw [Pulse.trigger, dacOn_eq, extractLsb'_eq_ofNat, extractLsb'_eq_ofNat, Nat.pow_zero, Nat.div_one]
  rfl

theorem Wave.writeControl_on (ch : Wave) (nr30 : Byte) (on : v.getLsbD 7 = true) :
    ch.writeControl nr30 v = { ch with
      lenEn := v.getLsbD 6, freq := freqHigh ch.freq v, enabled := nr30.getLsbD 7
      length := if ch.length = 0 then 256 else ch.length
      wavePos := 0, freqTimer := (2048 - (freqHigh ch.freq v).toNat) * 2 } :=
  if_pos on

theorem Noise.writeControl_on (ch : Noise) (nr42 nr43 : Byte) (on : v.getLsbD 7 = true) :
    ch.writeControl nr42 nr43 v = { ch with
      lenEn := v.getLsbD 6, enabled := decide (8 ≤ nr42.toNat)
      length := if ch.length = 0 then 64 else ch.length
      envTimer := BitVec.ofNat 3 nr42.toNat, vol := BitVec.ofNat 4 (nr42.toNat / 16), lfsr := 0x7FFF
      freqTimer := noisePeriod nr43 } := by
  refine (if_pos on).trans ?_
  rw [Noise.trigger, dacOn_eq, extractLsb'_eq_ofNat, extractLsb'_eq_ofNat, Nat.pow_zero, Nat.div_one]
  rfl

theorem Apu.writeNr14_on (on : v.getLsbD 7 = true) : u.writeNr14 m v = { u with
    ch1 := u.ch1.writeControl (Memory.read m 0xFF12) v
    shadow := (u.ch1.writeControl (Memory.read m 0xFF12) v).freq
    sweepTimer := BitVec.ofNat 3 ((Memory.read m 0xFF10).toNat / 16) } := by
  have sweep : BitVec.ofNat 3 ((Memory.read m 0xFF10).toNat / 16) =
      (Memory.read m 0xFF10).extractLsb' 4 3 := (extractLsb'_eq_ofNat _ 4 3).symm
  rw [sweep]
  exact if_pos on

end

/-- Settles O55: the register's own line of `writeRegister`, its fields by number. -/
theorem apuStores : Obligations.ApuStores := by
  intro s v power u after reg on low high f1 f2 f3 en
  have stored (a : Word) (lo : 0xFF10 ≤ a.toNat := by decide) (hi : a.toNat ≤ 0xFF3F := by decide)
      (h : a.toNat ≠ 0xFF26 := by decide) :
      after a = u.writeRegister (Memory.write s.mem a.toNat v) a.toNat v :=
    State.apu_busWrite power v lo hi h
  have read (a : Word) (n : Nat) (h : n ≠ a.toNat := by decide) :
      Memory.read (Memory.write s.mem a.toNat v) n = s.peek n := Memory.read_write_of_ne _ _ h
  have high_eq (f : BitVec 11) : high f = freqHigh f v := (freqHigh_eq f v).symm
  have low_eq (f : BitVec 11) : low f = freqLow f v := (freqLow_eq f v).symm
  have f1_eq : f1 = freqHigh u.ch1.freq v := high_eq _
  have f2_eq : f2 = freqHigh u.ch2.freq v := high_eq _
  have f3_eq : f3 = freqHigh u.ch3.freq v := high_eq _
  refine ⟨fun a lo hi h n => ?_, ?_, ?_, ?_, fun a ha => ?_, fun off => ?_, fun trigger => ?_⟩
  · rw [State.busWrite_powered power v lo hi h]
    exact s.peek_poke _ v n
  · rw [← lengthLoad64_eq]
    exact ⟨stored 0xFF11, stored 0xFF16, stored 0xFF1B, stored 0xFF20⟩
  · refine ⟨(stored 0xFF12).trans ?_, (stored 0xFF17).trans ?_, stored 0xFF1A, (stored 0xFF21).trans ?_⟩
    · exact congrArg (fun ch => { u with ch1 := ch }) (Pulse.writeEnvelope_eq v u.ch1)
    · exact congrArg (fun ch => { u with ch2 := ch }) (Pulse.writeEnvelope_eq v u.ch2)
    · exact congrArg (fun d => { u with ch4 := { u.ch4 with enabled := u.ch4.enabled && d } }) (dacOn_eq v)
  · rw [low_eq, low_eq, low_eq]
    exact ⟨stored 0xFF13, stored 0xFF18, stored 0xFF1D⟩
  · have window : 0xFF10 ≤ a.toNat ∧ a.toNat ≤ 0xFF3F ∧ a.toNat ≠ 0xFF26 := by
      simp only [List.mem_cons, List.not_mem_nil, or_false] at ha
      omega
    rw [stored a window.1 window.2.1 window.2.2]
    exact u.writeRegister_memoryOnly _ v (ha.imp_right And.left)
  · rw [f1_eq, f2_eq, f3_eq]
    refine ⟨(stored 0xFF14).trans ((u.writeNr14_off _ off).trans ?_), (stored 0xFF19).trans ?_,
      (stored 0xFF1E).trans ?_, (stored 0xFF23).trans ?_⟩
    · exact congrArg (fun ch => { u with ch1 := ch }) (Pulse.writeControl_off _ _ off)
    · exact congrArg (fun ch => { u with ch2 := ch }) (Pulse.writeControl_off _ _ off)
    · exact congrArg (fun ch => { u with ch3 := ch }) (Wave.writeControl_off _ _ off)
    · exact congrArg (fun ch => { u with ch4 := ch }) (Noise.writeControl_off _ _ _ off)
  · rw [f1_eq, f2_eq, f3_eq]
    refine ⟨(stored 0xFF14).trans ((u.writeNr14_on _ trigger).trans ?_), (stored 0xFF19).trans ?_,
      (stored 0xFF1E).trans ?_, (stored 0xFF23).trans ?_⟩
    · rw [Pulse.writeControl_on _ _ trigger, read 0xFF14 0xFF12, read 0xFF14 0xFF10]
    · refine congrArg (fun ch => { u with ch2 := ch }) ((Pulse.writeControl_on _ _ trigger).trans ?_)
      rw [read 0xFF19 0xFF17]
    · refine congrArg (fun ch => { u with ch3 := ch }) ((Wave.writeControl_on _ _ trigger).trans ?_)
      rw [read 0xFF1E 0xFF1A]
    · refine congrArg (fun ch => { u with ch4 := ch }) ((Noise.writeControl_on _ _ _ trigger).trans ?_)
      rw [read 0xFF23 0xFF21, read 0xFF23 0xFF22, noisePeriod_eq]

end Sys2Proof.Machine
end

section
/-!
PROOFS. The APU in time: the frame sequencer and what it clocks (R480 to R484, R512), and the waveform
timers with the amplitudes that follow from them (R490 to R494).
-/

namespace Sys2Proof.Machine

theorem iterate_eq {α : Type} (f : α → α) (n : Nat) (x : α) : iterate f n x = f^[n] x := by
  induction n generalizing x with
  | zero => rfl
  | succ n ih => exact ih (f x)

/-! ### One clock -/

/-- A length counter at 0 stays there, and one that reaches it silences its channel (R482). -/
theorem lengthClock_eq (en : Bool) (n : Nat) (on : Bool) :
    lengthClock en n on = (if en then n - 1 else n, on && !(en && decide (n = 1))) := by
  cases en with
  | false => simp [lengthClock]
  | true =>
    unfold lengthClock
    rcases n with - | - | n <;> simp

theorem lowField_eq_ofNat (v : Byte) : v.extractLsb' 0 3 = BitVec.ofNat 3 v.toNat := by
  rw [extractLsb'_eq_ofNat, Nat.pow_zero, Nat.div_one]

theorem field_eq_zero_iff (f : BitVec 3) (n : Nat) (eq : f = BitVec.ofNat 3 n) : f = 0 ↔ n % 8 = 0 := by
  rw [eq, ← BitVec.toNat_inj, BitVec.toNat_ofNat]
  rfl

/-- A 3-bit timer runs out from 1 (R483, R484). -/
theorem timer_runsOut_iff (t : BitVec 3) : t - 1 = 0 ↔ t = 1 := by
  revert t
  decide

/-- The sweep unit by the register's number (R483). -/
theorem sweepTarget_eq (shadow : BitVec 11) (nr10 : Byte) : sweepTarget shadow nr10 =
    if nr10.getLsbD 3 then shadow.toNat - shadow.toNat / 2 ^ (nr10.toNat % 8)
    else shadow.toNat + shadow.toNat / 2 ^ (nr10.toNat % 8) := by
  rw [sweepTarget, lowField_eq_ofNat, BitVec.toNat_ofNat]

section
variable {u : Apu} {nr10 : Byte}

theorem sweepIdle_iff : (!u.ch1.enabled || nr10.extractLsb' 4 3 == 0) = true ↔
    u.ch1.enabled = false ∨ nr10.toNat / 16 % 8 = 0 := by
  have period := field_eq_zero_iff _ (nr10.toNat / 16) (extractLsb'_eq_ofNat nr10 4 3)
  rw [Bool.or_eq_true, beq_iff_eq, period, Bool.not_eq_true']

/-- A sweep clock in a channel that is off, or with period 0. -/
theorem Apu.clockSweep_idle (idle : u.ch1.enabled = false ∨ nr10.toNat / 16 % 8 = 0) :
    u.clockSweep nr10 = u :=
  if_pos (sweepIdle_iff.mpr idle)

variable (busy : ¬ (u.ch1.enabled = false ∨ nr10.toNat / 16 % 8 = 0))
include busy

/-- Another one counts. -/
theorem Apu.clockSweep_counts (more : u.sweepTimer ≠ 1) :
    u.clockSweep nr10 = { u with sweepTimer := u.sweepTimer - 1 } :=
  (if_neg (mt sweepIdle_iff.mp busy)).trans
    (if_pos (bne_iff_ne.mpr (mt (timer_runsOut_iff _).mp more)))

/-- Or reloads the timer, and sweeps. -/
theorem Apu.clockSweep_sweeps (due : u.sweepTimer = 1) :
    u.clockSweep nr10 =
      if nr10.toNat % 8 = 0 then { u with sweepTimer := BitVec.ofNat 3 (nr10.toNat / 16 % 8) }
      else if 2047 < sweepTarget u.shadow nr10 then { u with
        sweepTimer := BitVec.ofNat 3 (nr10.toNat / 16 % 8), ch1 := { u.ch1 with enabled := false } }
      else { u with
        sweepTimer := BitVec.ofNat 3 (nr10.toNat / 16 % 8)
        shadow := BitVec.ofNat 11 (sweepTarget u.shadow nr10)
        ch1 := { u.ch1 with freq := BitVec.ofNat 11 (sweepTarget u.shadow nr10) } } := by
  have reload : BitVec.ofNat 3 (nr10.toNat / 16 % 8) = nr10.extractLsb' 4 3 := by
    rw [extractLsb'_eq_ofNat]
    exact BitVec.eq_of_toNat_eq (by simp only [BitVec.toNat_ofNat]; omega)
  rw [reload]
  refine ((if_neg (mt sweepIdle_iff.mp busy)).trans
    (if_neg (mt bne_iff_ne.mp (not_not.mpr ((timer_runsOut_iff _).mpr due))))).trans ?_
  exact if_congr (beq_iff_eq.trans (field_eq_zero_iff _ _ (lowField_eq_ofNat nr10))) rfl rfl

end

/-- One envelope clock by the register's number (R484). -/
theorem envelopeClock_eq (nr2 : Byte) (t : BitVec 3) (v : BitVec 4) :
    envelopeClock nr2 t v =
      (if nr2.toNat % 8 = 0 then t else if t = 1 then BitVec.ofNat 3 nr2.toNat else t - 1,
        if nr2.toNat % 8 = 0 ∨ t ≠ 1 then v
        else BitVec.ofNat 4 (if nr2.getLsbD 3 then min 15 (v.toNat + 1) else v.toNat - 1)) := by
  have zero := field_eq_zero_iff _ _ (lowField_eq_ofNat nr2)
  have last := timer_runsOut_iff t
  have louder : (if v.toNat < 15 then v + 1 else v) = BitVec.ofNat 4 (min 15 (v.toNat + 1)) := by
    revert v; decide
  have softer : (if v.toNat > 0 then v - 1 else v) = BitVec.ofNat 4 (v.toNat - 1) := by
    revert v; decide
  unfold envelopeClock
  dsimp only
  by_cases none : nr2.toNat % 8 = 0
  · rw [if_pos (beq_iff_eq.mpr (zero.mpr none)), if_pos none, if_pos (.inl none)]
  · rw [if_neg (mt (fun h => zero.mp (beq_iff_eq.mp h)) none), if_neg none]
    by_cases runsOut : t = 1
    · rw [if_neg (by simpa using last.mpr runsOut), if_pos runsOut,
        if_neg (not_or.mpr ⟨none, not_not.mpr runsOut⟩), louder, softer, lowField_eq_ofNat]
      split <;> rfl
    · rw [if_pos (by simpa using mt last.mp runsOut), if_neg runsOut, if_pos (.inr runsOut)]

/-! ### The sequencer -/

theorem sequencer_choice {α : Type} (f : BitVec 3) (lengths sweep envelopes none : α) :
    (if f = 0 ∨ f = 4 then lengths else if f = 2 ∨ f = 6 then sweep
      else if f = 7 then envelopes else none) =
      match f.toNat with
      | 0 | 4 => lengths
      | 2 | 6 => sweep
      | 7 => envelopes
      | _ => none := by
  obtain ⟨⟨n, hn⟩⟩ := f
  interval_cases n <;> rfl

/-- What the current step of the sequencer clocks (R481). -/
def Apu.clocked (m : Memory) (u : Apu) : Apu :=
  if u.fsStep = 0 ∨ u.fsStep = 4 then u.clockLength
  else if u.fsStep = 2 ∨ u.fsStep = 6 then u.clockSweep (Memory.read m 0xFF10)
  else if u.fsStep = 7 then u.clockEnvelope m
  else u

theorem Apu.sequencerStep_fsStep (m : Memory) (u : Apu) : (u.sequencerStep m).fsStep = u.fsStep + 1 := by
  unfold Apu.sequencerStep Apu.clockSweep
  dsimp only
  repeat' split
  all_goals rfl

theorem Apu.sequencerStep_eq (m : Memory) (u : Apu) :
    u.sequencerStep m = { u.clocked m with fsStep := u.fsStep + 1 } := by
  rw [← Apu.sequencerStep_fsStep m u]
  rfl

theorem Apu.sequencerSteps_counters (m : Memory) (n : Nat) (u : Apu) :
    ((Apu.sequencerStep m)^[n] u).fsStep.toNat = (u.fsStep.toNat + n) % 8 ∧
      ((Apu.sequencerStep m)^[n] u).fsClock = u.fsClock := by
  induction n generalizing u with
  | zero => exact ⟨(Nat.mod_eq_of_lt u.fsStep.isLt).symm, rfl⟩
  | succ n ih =>
    obtain ⟨step, clock⟩ := ih (u.sequencerStep m)
    rw [Function.iterate_succ_apply]
    refine ⟨?_, clock.trans (u.sequencerStep_power m).2⟩
    rw [step, Apu.sequencerStep_fsStep, BitVec.toNat_add]
    show ((u.fsStep.toNat + 1) % 8 + n) % 8 = _
    omega

theorem Apu.update_on {u : Apu} (on : u.power = true) (m : Memory) (delta : Nat) :
    u.update m delta = (Apu.sequencerStep m)^[(u.fsClock + delta) / 8192]
      { u.advance m delta with fsClock := (u.fsClock + delta) % 8192 } := by
  rw [← iterate_eq]
  exact if_neg (by rw [on]; decide)

/-- Settles O56: the steps that fall due, the choice of each step, and the three clocks. -/
theorem frameSequencer : Obligations.FrameSequencer := by
  refine ⟨fun s delta => ?_, fun m u => ?_, fun u => ?_, fun u nr10 => ?_, fun m u => ?_⟩
  · intro t clock
    refine ⟨rfl, fun off => if_pos (by rw [off]; rfl), fun on => ?_⟩
    have update : t = _ := Apu.update_on on s.mem delta
    obtain ⟨steps, clocks⟩ := Apu.sequencerSteps_counters s.mem (clock / 8192)
      { s.apu.advance s.mem delta with fsClock := clock % 8192 }
    rw [update]
    exact ⟨clocks, steps, rfl⟩
  · exact (u.sequencerStep_eq m).trans
      (congrArg (fun w : Apu => { w with fsStep := u.fsStep + 1 }) (sequencer_choice u.fsStep _ _ _ _))
  · intro counted plays
    simp only [Apu.clockLength, Pulse.clockLength, Wave.clockLength, Noise.clockLength, lengthClock_eq]
    rfl
  · intro time shift step new reloaded
    have target : sweepTarget u.shadow nr10 = new := sweepTarget_eq _ _
    rw [← target]
    by_cases idle : u.ch1.enabled = false ∨ time = 0
    · rw [if_pos idle, Apu.clockSweep_idle idle]
    rw [if_neg idle]
    by_cases more : u.sweepTimer ≠ 1
    · rw [if_pos more, Apu.clockSweep_counts idle more]
    · rw [if_neg more, Apu.clockSweep_sweeps idle (not_not.mp more)]
  · intro nr timer volume
    simp only [Apu.clockEnvelope, Pulse.clockEnvelope, Noise.clockEnvelope, envelopeClock_eq]
    rfl

/-! ### Waveform timers -/

/-- A position moved on by a number of steps. -/
theorem add_ofNat_eq {w : Nat} (pos : BitVec w) (n : Nat) :
    pos + BitVec.ofNat w n = BitVec.ofNat w (pos.toNat + n) := by
  rw [BitVec.ofNat_add, BitVec.ofNat_toNat, BitVec.setWidth_eq]

/-- A countdown by number: what is left of the period, and the steps (R480). -/
theorem countdown_eq (timer period delta : Nat) :
    countdown timer period delta =
      (if delta < timer then timer - delta else period - (delta - timer) % period,
        if delta < timer then 0 else (delta - timer) / period + 1) := by
  unfold countdown
  split
  · rfl
  · rw [Nat.add_comm 1]

theorem extractLsb'_bit {w : Nat} (x : BitVec w) (k : Nat) :
    x.extractLsb' k 1 = BitVec.ofBool (x.getLsbD k) := by
  apply BitVec.eq_of_getLsbD_eq
  intro i hi
  obtain rfl : i = 0 := by omega
  simp

/-- The tap bit of the noise register, by number (R493). -/
theorem toNat_tap (x : BitVec 15) :
    (x.extractLsb' 0 1 ^^^ x.extractLsb' 1 1).toNat =
      if Bool.xor (x.getLsbD 0) (x.getLsbD 1) then 1 else 0 := by
  rw [extractLsb'_bit, extractLsb'_bit]
  cases x.getLsbD 0 <;> cases x.getLsbD 1 <;> rfl

/-- One clock of the noise register, by number (R493): `b` is the tap, `y` the register shifted. -/
theorem lfsrClock_eq (nr43 : Byte) (x : BitVec 15) {b : Bool} {y : Nat}
    (tap : b = Bool.xor (x.getLsbD 0) (x.getLsbD 1)) (shift : y = x.toNat / 2 + if b then 2 ^ 14 else 0) :
    lfsrClock nr43 x = BitVec.ofNat 15 (if nr43.getLsbD 3 then
      y / 2 ^ 7 * 2 ^ 7 + (if b then 2 ^ 6 else 0) + y % 2 ^ 6 else y) := by
  have hx := x.isLt
  have bit : (x.extractLsb' 0 1 ^^^ x.extractLsb' 1 1).toNat = if b then 1 else 0 := by
    rw [tap]
    exact toNat_tap x
  have word : ((x.extractLsb' 0 1 ^^^ x.extractLsb' 1 1) ++ x.extractLsb' 1 14).toNat = y := by
    rw [toNat_append, bit, extractLsb'_eq_ofNat, BitVec.toNat_ofNat, shift]
    cases b <;> simp only [Bool.false_eq_true, if_true, if_false] <;> omega
  have small : y < 2 ^ 15 := by
    rw [← word]
    exact BitVec.isLt _
  apply BitVec.eq_of_toNat_eq
  rw [BitVec.toNat_ofNat]
  unfold lfsrClock
  dsimp only
  cases nr43.getLsbD 3 with
  | false => exact word.trans (Nat.mod_eq_of_lt small).symm
  | true =>
    rw [if_pos rfl, if_pos rfl, toNat_append, toNat_append, extractLsb'_eq_ofNat _ 7 8,
      extractLsb'_eq_ofNat _ 0 6,      BitVec.toNat_ofNat, BitVec.toNat_ofNat, word, bit]
    cases b <;> simp only [Bool.false_eq_true, if_true, if_false] <;> omega

/-! ### Amplitudes -/

theorem duty_eq (nr1 : Byte) (pos : BitVec 3) :
    (dutyPattern (nr1.extractLsb' 6 2)).getMsbD pos.toNat =
      decide ((([[0, 0, 0, 0, 0, 0, 0, 1], [1, 0, 0, 0, 0, 0, 0, 1], [1, 0, 0, 0, 0, 1, 1, 1],
        [0, 1, 1, 1, 1, 1, 1, 0]] : List (List Nat)).getD (nr1.toNat / 64) []).getD pos.toNat 0 = 1) := by
  revert nr1 pos
  decide

theorem mixSide_eq (a1 a2 a3 a4 : Nat) (route : BitVec 4) (volume : BitVec 3) :
    mixSide [a1, a2, a3, a4] route volume =
      ((if route.getLsbD 0 then a1 else 0) + (if route.getLsbD 1 then a2 else 0) +
        (if route.getLsbD 2 then a3 else 0) + (if route.getLsbD 3 then a4 else 0)) *
          (volume.toNat + 1) := by
  simp [mixSide, List.range_succ, Nat.add_assoc]

/-- Settles O57: the four timers as countdowns, and the amplitudes by number. -/
theorem waveforms : Obligations.Waveforms := by
  refine ⟨fun m u delta => ?_, fun s => ?_⟩
  · intro nr43 left steps p1 p2 p3 p4 shifted
    have clock : lfsrClock nr43 = shifted := funext fun x => lfsrClock_eq nr43 x rfl rfl
    rw [← clock]
    simp only [Apu.advance, Pulse.advance, Wave.advance, Noise.advance, countdown_eq, add_ofNat_eq,
      noisePeriod_eq, iterate_eq]
    rfl
  · intro reg u pulse pos sample a1 a2 a3 a4 heard
    have square (ch : Pulse) (n : Nat) : ch.amplitude (s.peek n) = pulse ch (reg n) := by
      rw [Pulse.amplitude, duty_eq]
      refine if_congr ?_ rfl rfl
      rw [Bool.and_eq_true, decide_eq_true_eq]
    have wave : u.ch3.amplitude s.mem = a3 := by
      have shift : ((Memory.read s.mem 0xFF1C).extractLsb' 5 2).toNat = reg 0xFF1C / 32 % 4 := by
        rw [extractLsb'_eq_ofNat, BitVec.toNat_ofNat]
        rfl
      rw [Wave.amplitude, shift]
      rfl
    have noise : u.ch4.amplitude = a4 := if_congr (by simp) rfl rfl
    have amps : s.amplitudes = [a1, a2, a3, a4] := by
      rw [State.amplitudes, wave, noise, square, square]
    have routed (start k : Nat) (hk : k < 4) :
        ((s.peek 0xFF25).extractLsb' start 4).getLsbD k = (s.peek 0xFF25).getLsbD (start + k) := by
      rw [BitVec.getLsbD_extractLsb', decide_eq_true hk, Bool.true_and]
    have volume (start : Nat) :
        ((s.peek 0xFF24).extractLsb' start 3).toNat = reg 0xFF24 / 2 ^ start % 8 := by
      rw [extractLsb'_eq_ofNat, BitVec.toNat_ofNat]
    refine ⟨amps, ?_, ?_⟩
    · rw [State.leftOutput, amps, mixSide_eq, volume, routed 4 0 (by decide), routed 4 1 (by decide),
        routed 4 2 (by decide), routed 4 3 (by decide)]
      rfl
    · rw [State.rightOutput, amps, mixSide_eq, volume, routed 0 0 (by decide), routed 0 1 (by decide),
        routed 0 2 (by decide), routed 0 3 (by decide), Nat.pow_zero, Nat.div_one]

end Sys2Proof.Machine
end
